-- ==== Sys2Proof/Word.lean ====
section
/-! DEFINITION. The two sizes of data word of the Bit Cursor engine: the byte of the buffer and the
64-bit value of the `VAL` and `DATA` buses. Spec: `00_scope.md` R4, R5 (bit 0 is the least
significant bit of a number). -/

namespace Sys2Proof

/-- One byte of the buffer (R4: "a byte has 8 bits"). -/
abbrev Byte := BitVec 8

/-- A value on the 64-bit `VAL` or `DATA` bus (R4, `DW = 64`). All values are unsigned (R5). -/
abbrev Data := BitVec 64

end Sys2Proof
end

