-- ==== Sys2Proof/Config.lean ====
section
/-! DEFINITION. What one implementation of the engine fixes (the open parameter `AW`) and the free
values: what the spec leaves unspecified is an opaque constant here, so that no proof can see it.
Spec: `00_scope.md` R4, `92_eei_decisions.md` D2, `93_implementation_defined.md` U5, U7, U10. -/

namespace Sys2Proof

/-- The implementation parameters. `aw` is `AW`, the number of bits of a byte offset
(`BYTE_IDX`, `LEN_BYTES`, `CMD.LEN`); the spec leaves it open (R4, D2, U10), so it is data that the
state carries and no step changes (log entry 1). -/
structure Config where
  aw : Nat
deriving DecidableEq, Repr

/-- `PW = AW + 3`, the number of bits of an absolute bit position and of `CMD.ARG` (R4). -/
def Config.pw (cfg : Config) : Nat := cfg.aw + 3

/-- R4: "any integer with 1 <= AW <= 61". -/
abbrev Config.Legal (cfg : Config) : Prop := 1 ≤ cfg.aw ∧ cfg.aw ≤ 61

/-- The spec's default, `AW = 32` (R4, D2). -/
def Config.default : Config := ⟨32⟩

/-- FREE VALUE. The byte that buffer offset `a` holds when the host never wrote it: R33 "its value is
unspecified, and a model should treat a read of it as returning an arbitrary byte, not zero"; U7:
any value, fixed for the run. Log entry 2. -/
opaque Config.startByte : Nat → Byte

/-- FREE VALUE. Whether lane `j` of the write command that the `k`-th mid-command reset interrupted
reached the buffer (R541: each byte "holds afterwards either its old or its new value, and which is
unspecified"; U5: drawn independently). Log entry 3. -/
opaque Config.abortStores : Nat → Nat → Bool

end Sys2Proof
end

