-- ==== Sys2Proof/Syntax.lean ====
section
/-! DEFINITION. The command set: the command record of the command port (R90), the one inductive of
all 206 commands (R93, R95; one constructor per row of `spec/opcode_table.json`), and the form of each
command: which of the eleven operations of the spec it is, with which width and operands (R92, R94). -/

namespace Sys2Proof

/-- The command record that the host presents on the command port (R90): four fields, each on its own
bus. `arg` stands for the `PW`-bit bus `ARG` and `len` for the `AW`-bit bus `LEN`, as natural numbers
(R4 allows it); the decoder reads the bus's own bits of each and no others. -/
structure Command where
  op  : BitVec 8
  arg : Nat
  len : Nat
  val : Data
deriving DecidableEq, Repr

/-- The 206 commands (R93). `bitCount`, `count` and `off` are `CMD.ARG`, `len` is `CMD.LEN`, `value` is
`CMD.VAL` (R94). -/
inductive Instr where
  /-- `READ_U1` (R201). -/
  | readU1
  /-- `READ_U2` (R202). -/
  | readU2
  /-- `READ_U3` (R203). -/
  | readU3
  /-- `READ_U4` (R204). -/
  | readU4
  /-- `READ_U5` (R205). -/
  | readU5
  /-- `READ_U6` (R206). -/
  | readU6
  /-- `READ_U7` (R207). -/
  | readU7
  /-- `READ_U8` (R208). -/
  | readU8
  /-- `READ_U9` (R209). -/
  | readU9
  /-- `READ_U10` (R210). -/
  | readU10
  /-- `READ_U11` (R211). -/
  | readU11
  /-- `READ_U12` (R212). -/
  | readU12
  /-- `READ_U13` (R213). -/
  | readU13
  /-- `READ_U14` (R214). -/
  | readU14
  /-- `READ_U15` (R215). -/
  | readU15
  /-- `READ_U16` (R216). -/
  | readU16
  /-- `READ_U17` (R217). -/
  | readU17
  /-- `READ_U18` (R218). -/
  | readU18
  /-- `READ_U19` (R219). -/
  | readU19
  /-- `READ_U20` (R220). -/
  | readU20
  /-- `READ_U21` (R221). -/
  | readU21
  /-- `READ_U22` (R222). -/
  | readU22
  /-- `READ_U23` (R223). -/
  | readU23
  /-- `READ_U24` (R224). -/
  | readU24
  /-- `READ_U25` (R225). -/
  | readU25
  /-- `READ_U26` (R226). -/
  | readU26
  /-- `READ_U27` (R227). -/
  | readU27
  /-- `READ_U28` (R228). -/
  | readU28
  /-- `READ_U29` (R229). -/
  | readU29
  /-- `READ_U30` (R230). -/
  | readU30
  /-- `READ_U31` (R231). -/
  | readU31
  /-- `READ_U32` (R232). -/
  | readU32
  /-- `READ_U33` (R233). -/
  | readU33
  /-- `READ_U34` (R234). -/
  | readU34
  /-- `READ_U35` (R235). -/
  | readU35
  /-- `READ_U36` (R236). -/
  | readU36
  /-- `READ_U37` (R237). -/
  | readU37
  /-- `READ_U38` (R238). -/
  | readU38
  /-- `READ_U39` (R239). -/
  | readU39
  /-- `READ_U40` (R240). -/
  | readU40
  /-- `READ_U41` (R241). -/
  | readU41
  /-- `READ_U42` (R242). -/
  | readU42
  /-- `READ_U43` (R243). -/
  | readU43
  /-- `READ_U44` (R244). -/
  | readU44
  /-- `READ_U45` (R245). -/
  | readU45
  /-- `READ_U46` (R246). -/
  | readU46
  /-- `READ_U47` (R247). -/
  | readU47
  /-- `READ_U48` (R248). -/
  | readU48
  /-- `READ_U49` (R249). -/
  | readU49
  /-- `READ_U50` (R250). -/
  | readU50
  /-- `READ_U51` (R251). -/
  | readU51
  /-- `READ_U52` (R252). -/
  | readU52
  /-- `READ_U53` (R253). -/
  | readU53
  /-- `READ_U54` (R254). -/
  | readU54
  /-- `READ_U55` (R255). -/
  | readU55
  /-- `READ_U56` (R256). -/
  | readU56
  /-- `READ_U57` (R257). -/
  | readU57
  /-- `READ_U58` (R258). -/
  | readU58
  /-- `READ_U59` (R259). -/
  | readU59
  /-- `READ_U60` (R260). -/
  | readU60
  /-- `READ_U61` (R261). -/
  | readU61
  /-- `READ_U62` (R262). -/
  | readU62
  /-- `READ_U63` (R263). -/
  | readU63
  /-- `READ_U64` (R264). -/
  | readU64
  /-- `WRITE_U1` (R301). -/
  | writeU1 (value : Data)
  /-- `WRITE_U2` (R302). -/
  | writeU2 (value : Data)
  /-- `WRITE_U3` (R303). -/
  | writeU3 (value : Data)
  /-- `WRITE_U4` (R304). -/
  | writeU4 (value : Data)
  /-- `WRITE_U5` (R305). -/
  | writeU5 (value : Data)
  /-- `WRITE_U6` (R306). -/
  | writeU6 (value : Data)
  /-- `WRITE_U7` (R307). -/
  | writeU7 (value : Data)
  /-- `WRITE_U8` (R308). -/
  | writeU8 (value : Data)
  /-- `WRITE_U9` (R309). -/
  | writeU9 (value : Data)
  /-- `WRITE_U10` (R310). -/
  | writeU10 (value : Data)
  /-- `WRITE_U11` (R311). -/
  | writeU11 (value : Data)
  /-- `WRITE_U12` (R312). -/
  | writeU12 (value : Data)
  /-- `WRITE_U13` (R313). -/
  | writeU13 (value : Data)
  /-- `WRITE_U14` (R314). -/
  | writeU14 (value : Data)
  /-- `WRITE_U15` (R315). -/
  | writeU15 (value : Data)
  /-- `WRITE_U16` (R316). -/
  | writeU16 (value : Data)
  /-- `WRITE_U17` (R317). -/
  | writeU17 (value : Data)
  /-- `WRITE_U18` (R318). -/
  | writeU18 (value : Data)
  /-- `WRITE_U19` (R319). -/
  | writeU19 (value : Data)
  /-- `WRITE_U20` (R320). -/
  | writeU20 (value : Data)
  /-- `WRITE_U21` (R321). -/
  | writeU21 (value : Data)
  /-- `WRITE_U22` (R322). -/
  | writeU22 (value : Data)
  /-- `WRITE_U23` (R323). -/
  | writeU23 (value : Data)
  /-- `WRITE_U24` (R324). -/
  | writeU24 (value : Data)
  /-- `WRITE_U25` (R325). -/
  | writeU25 (value : Data)
  /-- `WRITE_U26` (R326). -/
  | writeU26 (value : Data)
  /-- `WRITE_U27` (R327). -/
  | writeU27 (value : Data)
  /-- `WRITE_U28` (R328). -/
  | writeU28 (value : Data)
  /-- `WRITE_U29` (R329). -/
  | writeU29 (value : Data)
  /-- `WRITE_U30` (R330). -/
  | writeU30 (value : Data)
  /-- `WRITE_U31` (R331). -/
  | writeU31 (value : Data)
  /-- `WRITE_U32` (R332). -/
  | writeU32 (value : Data)
  /-- `WRITE_U33` (R333). -/
  | writeU33 (value : Data)
  /-- `WRITE_U34` (R334). -/
  | writeU34 (value : Data)
  /-- `WRITE_U35` (R335). -/
  | writeU35 (value : Data)
  /-- `WRITE_U36` (R336). -/
  | writeU36 (value : Data)
  /-- `WRITE_U37` (R337). -/
  | writeU37 (value : Data)
  /-- `WRITE_U38` (R338). -/
  | writeU38 (value : Data)
  /-- `WRITE_U39` (R339). -/
  | writeU39 (value : Data)
  /-- `WRITE_U40` (R340). -/
  | writeU40 (value : Data)
  /-- `WRITE_U41` (R341). -/
  | writeU41 (value : Data)
  /-- `WRITE_U42` (R342). -/
  | writeU42 (value : Data)
  /-- `WRITE_U43` (R343). -/
  | writeU43 (value : Data)
  /-- `WRITE_U44` (R344). -/
  | writeU44 (value : Data)
  /-- `WRITE_U45` (R345). -/
  | writeU45 (value : Data)
  /-- `WRITE_U46` (R346). -/
  | writeU46 (value : Data)
  /-- `WRITE_U47` (R347). -/
  | writeU47 (value : Data)
  /-- `WRITE_U48` (R348). -/
  | writeU48 (value : Data)
  /-- `WRITE_U49` (R349). -/
  | writeU49 (value : Data)
  /-- `WRITE_U50` (R350). -/
  | writeU50 (value : Data)
  /-- `WRITE_U51` (R351). -/
  | writeU51 (value : Data)
  /-- `WRITE_U52` (R352). -/
  | writeU52 (value : Data)
  /-- `WRITE_U53` (R353). -/
  | writeU53 (value : Data)
  /-- `WRITE_U54` (R354). -/
  | writeU54 (value : Data)
  /-- `WRITE_U55` (R355). -/
  | writeU55 (value : Data)
  /-- `WRITE_U56` (R356). -/
  | writeU56 (value : Data)
  /-- `WRITE_U57` (R357). -/
  | writeU57 (value : Data)
  /-- `WRITE_U58` (R358). -/
  | writeU58 (value : Data)
  /-- `WRITE_U59` (R359). -/
  | writeU59 (value : Data)
  /-- `WRITE_U60` (R360). -/
  | writeU60 (value : Data)
  /-- `WRITE_U61` (R361). -/
  | writeU61 (value : Data)
  /-- `WRITE_U62` (R362). -/
  | writeU62 (value : Data)
  /-- `WRITE_U63` (R363). -/
  | writeU63 (value : Data)
  /-- `WRITE_U64` (R364). -/
  | writeU64 (value : Data)
  /-- `SKIP_1` (R401). -/
  | skip1
  /-- `SKIP_2` (R402). -/
  | skip2
  /-- `SKIP_3` (R403). -/
  | skip3
  /-- `SKIP_4` (R404). -/
  | skip4
  /-- `SKIP_5` (R405). -/
  | skip5
  /-- `SKIP_6` (R406). -/
  | skip6
  /-- `SKIP_7` (R407). -/
  | skip7
  /-- `SKIP_8` (R408). -/
  | skip8
  /-- `SKIP_9` (R409). -/
  | skip9
  /-- `SKIP_10` (R410). -/
  | skip10
  /-- `SKIP_11` (R411). -/
  | skip11
  /-- `SKIP_12` (R412). -/
  | skip12
  /-- `SKIP_13` (R413). -/
  | skip13
  /-- `SKIP_14` (R414). -/
  | skip14
  /-- `SKIP_15` (R415). -/
  | skip15
  /-- `SKIP_16` (R416). -/
  | skip16
  /-- `SKIP_17` (R417). -/
  | skip17
  /-- `SKIP_18` (R418). -/
  | skip18
  /-- `SKIP_19` (R419). -/
  | skip19
  /-- `SKIP_20` (R420). -/
  | skip20
  /-- `SKIP_21` (R421). -/
  | skip21
  /-- `SKIP_22` (R422). -/
  | skip22
  /-- `SKIP_23` (R423). -/
  | skip23
  /-- `SKIP_24` (R424). -/
  | skip24
  /-- `SKIP_25` (R425). -/
  | skip25
  /-- `SKIP_26` (R426). -/
  | skip26
  /-- `SKIP_27` (R427). -/
  | skip27
  /-- `SKIP_28` (R428). -/
  | skip28
  /-- `SKIP_29` (R429). -/
  | skip29
  /-- `SKIP_30` (R430). -/
  | skip30
  /-- `SKIP_31` (R431). -/
  | skip31
  /-- `SKIP_32` (R432). -/
  | skip32
  /-- `SKIP_33` (R433). -/
  | skip33
  /-- `SKIP_34` (R434). -/
  | skip34
  /-- `SKIP_35` (R435). -/
  | skip35
  /-- `SKIP_36` (R436). -/
  | skip36
  /-- `SKIP_37` (R437). -/
  | skip37
  /-- `SKIP_38` (R438). -/
  | skip38
  /-- `SKIP_39` (R439). -/
  | skip39
  /-- `SKIP_40` (R440). -/
  | skip40
  /-- `SKIP_41` (R441). -/
  | skip41
  /-- `SKIP_42` (R442). -/
  | skip42
  /-- `SKIP_43` (R443). -/
  | skip43
  /-- `SKIP_44` (R444). -/
  | skip44
  /-- `SKIP_45` (R445). -/
  | skip45
  /-- `SKIP_46` (R446). -/
  | skip46
  /-- `SKIP_47` (R447). -/
  | skip47
  /-- `SKIP_48` (R448). -/
  | skip48
  /-- `SKIP_49` (R449). -/
  | skip49
  /-- `SKIP_50` (R450). -/
  | skip50
  /-- `SKIP_51` (R451). -/
  | skip51
  /-- `SKIP_52` (R452). -/
  | skip52
  /-- `SKIP_53` (R453). -/
  | skip53
  /-- `SKIP_54` (R454). -/
  | skip54
  /-- `SKIP_55` (R455). -/
  | skip55
  /-- `SKIP_56` (R456). -/
  | skip56
  /-- `SKIP_57` (R457). -/
  | skip57
  /-- `SKIP_58` (R458). -/
  | skip58
  /-- `SKIP_59` (R459). -/
  | skip59
  /-- `SKIP_60` (R460). -/
  | skip60
  /-- `SKIP_61` (R461). -/
  | skip61
  /-- `SKIP_62` (R462). -/
  | skip62
  /-- `SKIP_63` (R463). -/
  | skip63
  /-- `SKIP_64` (R464). -/
  | skip64
  /-- `NEW_READ` (R130). -/
  | newRead (len off : Nat)
  /-- `NEW_WRITE` (R131). -/
  | newWrite (len off : Nat)
  /-- `GET_POS` (R132). -/
  | getPos
  /-- `GET_REMAINING` (R133). -/
  | getRemaining
  /-- `ADVANCE_BITS` (R143). -/
  | advanceBits (count : Nat)
  /-- `SKIP_BITS` (R144). -/
  | skipBits (count : Nat)
  /-- `READ_UP_TO_U8` (R151). -/
  | readUpToU8 (bitCount : Nat)
  /-- `READ_UP_TO_U16` (R152). -/
  | readUpToU16 (bitCount : Nat)
  /-- `READ_UP_TO_U32` (R153). -/
  | readUpToU32 (bitCount : Nat)
  /-- `READ_UP_TO_U64` (R154). -/
  | readUpToU64 (bitCount : Nat)
  /-- `WRITE_UP_TO_U8` (R171). -/
  | writeUpToU8 (value : Data) (bitCount : Nat)
  /-- `WRITE_UP_TO_U16` (R172). -/
  | writeUpToU16 (value : Data) (bitCount : Nat)
  /-- `WRITE_UP_TO_U32` (R173). -/
  | writeUpToU32 (value : Data) (bitCount : Nat)
  /-- `WRITE_UP_TO_U64` (R174). -/
  | writeUpToU64 (value : Data) (bitCount : Nat)
deriving DecidableEq, Repr

/-- The form of a command: the operation it names, with the width baked into its name (`n` of a
wrapper, `w` of a primitive) and the operands it takes (R94, R95). -/
inductive Form where
  /-- `READ_UN`, N = `n`. -/
  | read (n : Nat)
  /-- `WRITE_UN`, N = `n`. -/
  | write (n : Nat) (value : Data)
  /-- `SKIP_N`, N = `n`. -/
  | skip (n : Nat)
  | newRead (len off : Nat)
  | newWrite (len off : Nat)
  | getPos
  | getRemaining
  | advanceBits (count : Nat)
  | skipBits (count : Nat)
  /-- `READ_UP_TO_UW`, W = `w`. -/
  | readUpTo (w bitCount : Nat)
  /-- `WRITE_UP_TO_UW`, W = `w`. -/
  | writeUpTo (w : Nat) (value : Data) (bitCount : Nat)
deriving DecidableEq, Repr

/-- The form of each of the 206 commands (R93, R94). -/
def Instr.form : Instr → Form
  | .readU1 => .read 1
  | .readU2 => .read 2
  | .readU3 => .read 3
  | .readU4 => .read 4
  | .readU5 => .read 5
  | .readU6 => .read 6
  | .readU7 => .read 7
  | .readU8 => .read 8
  | .readU9 => .read 9
  | .readU10 => .read 10
  | .readU11 => .read 11
  | .readU12 => .read 12
  | .readU13 => .read 13
  | .readU14 => .read 14
  | .readU15 => .read 15
  | .readU16 => .read 16
  | .readU17 => .read 17
  | .readU18 => .read 18
  | .readU19 => .read 19
  | .readU20 => .read 20
  | .readU21 => .read 21
  | .readU22 => .read 22
  | .readU23 => .read 23
  | .readU24 => .read 24
  | .readU25 => .read 25
  | .readU26 => .read 26
  | .readU27 => .read 27
  | .readU28 => .read 28
  | .readU29 => .read 29
  | .readU30 => .read 30
  | .readU31 => .read 31
  | .readU32 => .read 32
  | .readU33 => .read 33
  | .readU34 => .read 34
  | .readU35 => .read 35
  | .readU36 => .read 36
  | .readU37 => .read 37
  | .readU38 => .read 38
  | .readU39 => .read 39
  | .readU40 => .read 40
  | .readU41 => .read 41
  | .readU42 => .read 42
  | .readU43 => .read 43
  | .readU44 => .read 44
  | .readU45 => .read 45
  | .readU46 => .read 46
  | .readU47 => .read 47
  | .readU48 => .read 48
  | .readU49 => .read 49
  | .readU50 => .read 50
  | .readU51 => .read 51
  | .readU52 => .read 52
  | .readU53 => .read 53
  | .readU54 => .read 54
  | .readU55 => .read 55
  | .readU56 => .read 56
  | .readU57 => .read 57
  | .readU58 => .read 58
  | .readU59 => .read 59
  | .readU60 => .read 60
  | .readU61 => .read 61
  | .readU62 => .read 62
  | .readU63 => .read 63
  | .readU64 => .read 64
  | .writeU1 v => .write 1 v
  | .writeU2 v => .write 2 v
  | .writeU3 v => .write 3 v
  | .writeU4 v => .write 4 v
  | .writeU5 v => .write 5 v
  | .writeU6 v => .write 6 v
  | .writeU7 v => .write 7 v
  | .writeU8 v => .write 8 v
  | .writeU9 v => .write 9 v
  | .writeU10 v => .write 10 v
  | .writeU11 v => .write 11 v
  | .writeU12 v => .write 12 v
  | .writeU13 v => .write 13 v
  | .writeU14 v => .write 14 v
  | .writeU15 v => .write 15 v
  | .writeU16 v => .write 16 v
  | .writeU17 v => .write 17 v
  | .writeU18 v => .write 18 v
  | .writeU19 v => .write 19 v
  | .writeU20 v => .write 20 v
  | .writeU21 v => .write 21 v
  | .writeU22 v => .write 22 v
  | .writeU23 v => .write 23 v
  | .writeU24 v => .write 24 v
  | .writeU25 v => .write 25 v
  | .writeU26 v => .write 26 v
  | .writeU27 v => .write 27 v
  | .writeU28 v => .write 28 v
  | .writeU29 v => .write 29 v
  | .writeU30 v => .write 30 v
  | .writeU31 v => .write 31 v
  | .writeU32 v => .write 32 v
  | .writeU33 v => .write 33 v
  | .writeU34 v => .write 34 v
  | .writeU35 v => .write 35 v
  | .writeU36 v => .write 36 v
  | .writeU37 v => .write 37 v
  | .writeU38 v => .write 38 v
  | .writeU39 v => .write 39 v
  | .writeU40 v => .write 40 v
  | .writeU41 v => .write 41 v
  | .writeU42 v => .write 42 v
  | .writeU43 v => .write 43 v
  | .writeU44 v => .write 44 v
  | .writeU45 v => .write 45 v
  | .writeU46 v => .write 46 v
  | .writeU47 v => .write 47 v
  | .writeU48 v => .write 48 v
  | .writeU49 v => .write 49 v
  | .writeU50 v => .write 50 v
  | .writeU51 v => .write 51 v
  | .writeU52 v => .write 52 v
  | .writeU53 v => .write 53 v
  | .writeU54 v => .write 54 v
  | .writeU55 v => .write 55 v
  | .writeU56 v => .write 56 v
  | .writeU57 v => .write 57 v
  | .writeU58 v => .write 58 v
  | .writeU59 v => .write 59 v
  | .writeU60 v => .write 60 v
  | .writeU61 v => .write 61 v
  | .writeU62 v => .write 62 v
  | .writeU63 v => .write 63 v
  | .writeU64 v => .write 64 v
  | .skip1 => .skip 1
  | .skip2 => .skip 2
  | .skip3 => .skip 3
  | .skip4 => .skip 4
  | .skip5 => .skip 5
  | .skip6 => .skip 6
  | .skip7 => .skip 7
  | .skip8 => .skip 8
  | .skip9 => .skip 9
  | .skip10 => .skip 10
  | .skip11 => .skip 11
  | .skip12 => .skip 12
  | .skip13 => .skip 13
  | .skip14 => .skip 14
  | .skip15 => .skip 15
  | .skip16 => .skip 16
  | .skip17 => .skip 17
  | .skip18 => .skip 18
  | .skip19 => .skip 19
  | .skip20 => .skip 20
  | .skip21 => .skip 21
  | .skip22 => .skip 22
  | .skip23 => .skip 23
  | .skip24 => .skip 24
  | .skip25 => .skip 25
  | .skip26 => .skip 26
  | .skip27 => .skip 27
  | .skip28 => .skip 28
  | .skip29 => .skip 29
  | .skip30 => .skip 30
  | .skip31 => .skip 31
  | .skip32 => .skip 32
  | .skip33 => .skip 33
  | .skip34 => .skip 34
  | .skip35 => .skip 35
  | .skip36 => .skip 36
  | .skip37 => .skip 37
  | .skip38 => .skip 38
  | .skip39 => .skip 39
  | .skip40 => .skip 40
  | .skip41 => .skip 41
  | .skip42 => .skip 42
  | .skip43 => .skip 43
  | .skip44 => .skip 44
  | .skip45 => .skip 45
  | .skip46 => .skip 46
  | .skip47 => .skip 47
  | .skip48 => .skip 48
  | .skip49 => .skip 49
  | .skip50 => .skip 50
  | .skip51 => .skip 51
  | .skip52 => .skip 52
  | .skip53 => .skip 53
  | .skip54 => .skip 54
  | .skip55 => .skip 55
  | .skip56 => .skip 56
  | .skip57 => .skip 57
  | .skip58 => .skip 58
  | .skip59 => .skip 59
  | .skip60 => .skip 60
  | .skip61 => .skip 61
  | .skip62 => .skip 62
  | .skip63 => .skip 63
  | .skip64 => .skip 64
  | .newRead len off => .newRead len off
  | .newWrite len off => .newWrite len off
  | .getPos => .getPos
  | .getRemaining => .getRemaining
  | .advanceBits c => .advanceBits c
  | .skipBits c => .skipBits c
  | .readUpToU8 n => .readUpTo 8 n
  | .readUpToU16 n => .readUpTo 16 n
  | .readUpToU32 n => .readUpTo 32 n
  | .readUpToU64 n => .readUpTo 64 n
  | .writeUpToU8 v n => .writeUpTo 8 v n
  | .writeUpToU16 v n => .writeUpTo 16 v n
  | .writeUpToU32 v n => .writeUpTo 32 v n
  | .writeUpToU64 v n => .writeUpTo 64 v n

end Sys2Proof
end

