-- ==== Sys2Proof/WellFormed.lean ====
section
/-! DEFINITION. Well-formed commands: every operand is a value that its bus can carry (R90, R94). A
`bit_count` of 0 or above the primitive width is well formed: the port can carry it, and the engine
answers it with `ILLEGAL` (R502). -/

namespace Sys2Proof

/-- A value of the `AW`-bit bus `LEN` (R90). -/
abbrev Config.fitsLen (cfg : Config) (len : Nat) : Bool := len < 2 ^ cfg.aw

/-- A value of the `PW`-bit bus `ARG` (R90). -/
abbrev Config.fitsArg (cfg : Config) (arg : Nat) : Bool := arg < 2 ^ cfg.pw

/-- The operands of a form fit their buses (R90, R94). The width baked into a wrapper's name and the
64-bit `VAL` need no check. -/
def Form.wellFormed (cfg : Config) : Form → Bool
  | .read _ => true
  | .write _ _ => true
  | .skip _ => true
  | .newRead len off => cfg.fitsLen len && cfg.fitsArg off
  | .newWrite len off => cfg.fitsLen len && cfg.fitsArg off
  | .getPos => true
  | .getRemaining => true
  | .advanceBits count => cfg.fitsArg count
  | .skipBits count => cfg.fitsArg count
  | .readUpTo _ n => cfg.fitsArg n
  | .writeUpTo _ _ n => cfg.fitsArg n

/-- A command that the command port can carry at this `AW`. -/
def Instr.wellFormed (cfg : Config) (i : Instr) : Bool := i.form.wellFormed cfg

end Sys2Proof
end

