-- ==== Sys2Proof/Decode.lean ====
section
/-! DEFINITION. Decoding a command record and encoding a command (`30_encoding.md` R90 to R96), and the
packing of a command record into the single word `CMDW` (R90). The decoder is total: the 50 reserved
opcodes are rejected by name. -/

namespace Sys2Proof

/-- What the decoder answers: a command, or the reserved opcode it rejects (R96). -/
inductive Decoded where
  | instr (i : Instr)
  | reserved (op : BitVec 8)
deriving DecidableEq, Repr

/-- The bits of the bus `ARG`: `PW` of them (R90, R94 "the whole of `ARG`"). -/
def Command.argBits (cfg : Config) (c : Command) : Nat := c.arg % 2 ^ cfg.pw

/-- The bits of the bus `LEN`: `AW` of them (R90). -/
def Command.lenBits (cfg : Config) (c : Command) : Nat := c.len % 2 ^ cfg.aw

/-- Entries 0 to 15 of `readTable`. -/
def readTable0 : List Instr :=
  [.readU1, .readU2, .readU3, .readU4,
   .readU5, .readU6, .readU7, .readU8,
   .readU9, .readU10, .readU11, .readU12,
   .readU13, .readU14, .readU15, .readU16]

/-- Entries 16 to 31 of `readTable`. -/
def readTable16 : List Instr :=
  [.readU17, .readU18, .readU19, .readU20,
   .readU21, .readU22, .readU23, .readU24,
   .readU25, .readU26, .readU27, .readU28,
   .readU29, .readU30, .readU31, .readU32]

/-- Entries 32 to 47 of `readTable`. -/
def readTable32 : List Instr :=
  [.readU33, .readU34, .readU35, .readU36,
   .readU37, .readU38, .readU39, .readU40,
   .readU41, .readU42, .readU43, .readU44,
   .readU45, .readU46, .readU47, .readU48]

/-- Entries 48 to 63 of `readTable`. -/
def readTable48 : List Instr :=
  [.readU49, .readU50, .readU51, .readU52,
   .readU53, .readU54, .readU55, .readU56,
   .readU57, .readU58, .readU59, .readU60,
   .readU61, .readU62, .readU63, .readU64]

/-- Class `00`: entry `OP[5:0]` is `READ_UN` with N = `OP[5:0] + 1` (R92). -/
def readTable : List Instr := readTable0 ++ readTable16 ++ readTable32 ++ readTable48

/-- Entries 0 to 15 of `writeTable`. -/
def writeTable0 : List (Data → Instr) :=
  [.writeU1, .writeU2, .writeU3, .writeU4,
   .writeU5, .writeU6, .writeU7, .writeU8,
   .writeU9, .writeU10, .writeU11, .writeU12,
   .writeU13, .writeU14, .writeU15, .writeU16]

/-- Entries 16 to 31 of `writeTable`. -/
def writeTable16 : List (Data → Instr) :=
  [.writeU17, .writeU18, .writeU19, .writeU20,
   .writeU21, .writeU22, .writeU23, .writeU24,
   .writeU25, .writeU26, .writeU27, .writeU28,
   .writeU29, .writeU30, .writeU31, .writeU32]

/-- Entries 32 to 47 of `writeTable`. -/
def writeTable32 : List (Data → Instr) :=
  [.writeU33, .writeU34, .writeU35, .writeU36,
   .writeU37, .writeU38, .writeU39, .writeU40,
   .writeU41, .writeU42, .writeU43, .writeU44,
   .writeU45, .writeU46, .writeU47, .writeU48]

/-- Entries 48 to 63 of `writeTable`. -/
def writeTable48 : List (Data → Instr) :=
  [.writeU49, .writeU50, .writeU51, .writeU52,
   .writeU53, .writeU54, .writeU55, .writeU56,
   .writeU57, .writeU58, .writeU59, .writeU60,
   .writeU61, .writeU62, .writeU63, .writeU64]

/-- Class `01`: entry `OP[5:0]` is `WRITE_UN` with N = `OP[5:0] + 1` (R92). -/
def writeTable : List (Data → Instr) := writeTable0 ++ writeTable16 ++ writeTable32 ++ writeTable48

/-- Entries 0 to 15 of `skipTable`. -/
def skipTable0 : List Instr :=
  [.skip1, .skip2, .skip3, .skip4,
   .skip5, .skip6, .skip7, .skip8,
   .skip9, .skip10, .skip11, .skip12,
   .skip13, .skip14, .skip15, .skip16]

/-- Entries 16 to 31 of `skipTable`. -/
def skipTable16 : List Instr :=
  [.skip17, .skip18, .skip19, .skip20,
   .skip21, .skip22, .skip23, .skip24,
   .skip25, .skip26, .skip27, .skip28,
   .skip29, .skip30, .skip31, .skip32]

/-- Entries 32 to 47 of `skipTable`. -/
def skipTable32 : List Instr :=
  [.skip33, .skip34, .skip35, .skip36,
   .skip37, .skip38, .skip39, .skip40,
   .skip41, .skip42, .skip43, .skip44,
   .skip45, .skip46, .skip47, .skip48]

/-- Entries 48 to 63 of `skipTable`. -/
def skipTable48 : List Instr :=
  [.skip49, .skip50, .skip51, .skip52,
   .skip53, .skip54, .skip55, .skip56,
   .skip57, .skip58, .skip59, .skip60,
   .skip61, .skip62, .skip63, .skip64]

/-- Class `10`: entry `OP[5:0]` is `SKIP_N` with N = `OP[5:0] + 1` (R92). -/
def skipTable : List Instr := skipTable0 ++ skipTable16 ++ skipTable32 ++ skipTable48

/-- Class `11`: the primitives, constructions and queries by `OP[5:0]` (R95); every other index is
reserved (R96). -/
def decodeClass3 (cfg : Config) (c : Command) (index : Nat) : Option Instr :=
  match index with
  | 0 => some (.newRead (c.lenBits cfg) (c.argBits cfg))
  | 1 => some (.newWrite (c.lenBits cfg) (c.argBits cfg))
  | 2 => some .getPos
  | 3 => some .getRemaining
  | 4 => some (.advanceBits (c.argBits cfg))
  | 5 => some (.skipBits (c.argBits cfg))
  | 8 => some (.readUpToU8 (c.argBits cfg))
  | 9 => some (.readUpToU16 (c.argBits cfg))
  | 10 => some (.readUpToU32 (c.argBits cfg))
  | 11 => some (.readUpToU64 (c.argBits cfg))
  | 12 => some (.writeUpToU8 c.val (c.argBits cfg))
  | 13 => some (.writeUpToU16 c.val (c.argBits cfg))
  | 14 => some (.writeUpToU32 c.val (c.argBits cfg))
  | 15 => some (.writeUpToU64 c.val (c.argBits cfg))
  | _ => none

/-- R92: `OP[7:6]` selects the class, `OP[5:0]` the command of the class. -/
def decodeOp (cfg : Config) (c : Command) : Option Instr :=
  let index := c.op.toNat % 64
  match c.op.toNat / 64 with
  | 0 => readTable[index]?
  | 1 => (writeTable[index]?).map fun write => write c.val
  | 2 => skipTable[index]?
  | _ => decodeClass3 cfg c index

/-- The decoder: the command a record stands for, or its opcode rejected as reserved (R95, R96). Fields
that the command does not use are ignored (R90), and the mode has no part in decoding (R99). -/
def decode (cfg : Config) (c : Command) : Decoded :=
  match decodeOp cfg c with
  | some i => .instr i
  | none => .reserved c.op

/-- The opcode byte of each command, as the opcode map prints it (R95). -/
def Instr.opcode : Instr → BitVec 8
  | .readU1 => 0x00
  | .readU2 => 0x01
  | .readU3 => 0x02
  | .readU4 => 0x03
  | .readU5 => 0x04
  | .readU6 => 0x05
  | .readU7 => 0x06
  | .readU8 => 0x07
  | .readU9 => 0x08
  | .readU10 => 0x09
  | .readU11 => 0x0A
  | .readU12 => 0x0B
  | .readU13 => 0x0C
  | .readU14 => 0x0D
  | .readU15 => 0x0E
  | .readU16 => 0x0F
  | .readU17 => 0x10
  | .readU18 => 0x11
  | .readU19 => 0x12
  | .readU20 => 0x13
  | .readU21 => 0x14
  | .readU22 => 0x15
  | .readU23 => 0x16
  | .readU24 => 0x17
  | .readU25 => 0x18
  | .readU26 => 0x19
  | .readU27 => 0x1A
  | .readU28 => 0x1B
  | .readU29 => 0x1C
  | .readU30 => 0x1D
  | .readU31 => 0x1E
  | .readU32 => 0x1F
  | .readU33 => 0x20
  | .readU34 => 0x21
  | .readU35 => 0x22
  | .readU36 => 0x23
  | .readU37 => 0x24
  | .readU38 => 0x25
  | .readU39 => 0x26
  | .readU40 => 0x27
  | .readU41 => 0x28
  | .readU42 => 0x29
  | .readU43 => 0x2A
  | .readU44 => 0x2B
  | .readU45 => 0x2C
  | .readU46 => 0x2D
  | .readU47 => 0x2E
  | .readU48 => 0x2F
  | .readU49 => 0x30
  | .readU50 => 0x31
  | .readU51 => 0x32
  | .readU52 => 0x33
  | .readU53 => 0x34
  | .readU54 => 0x35
  | .readU55 => 0x36
  | .readU56 => 0x37
  | .readU57 => 0x38
  | .readU58 => 0x39
  | .readU59 => 0x3A
  | .readU60 => 0x3B
  | .readU61 => 0x3C
  | .readU62 => 0x3D
  | .readU63 => 0x3E
  | .readU64 => 0x3F
  | .writeU1 _ => 0x40
  | .writeU2 _ => 0x41
  | .writeU3 _ => 0x42
  | .writeU4 _ => 0x43
  | .writeU5 _ => 0x44
  | .writeU6 _ => 0x45
  | .writeU7 _ => 0x46
  | .writeU8 _ => 0x47
  | .writeU9 _ => 0x48
  | .writeU10 _ => 0x49
  | .writeU11 _ => 0x4A
  | .writeU12 _ => 0x4B
  | .writeU13 _ => 0x4C
  | .writeU14 _ => 0x4D
  | .writeU15 _ => 0x4E
  | .writeU16 _ => 0x4F
  | .writeU17 _ => 0x50
  | .writeU18 _ => 0x51
  | .writeU19 _ => 0x52
  | .writeU20 _ => 0x53
  | .writeU21 _ => 0x54
  | .writeU22 _ => 0x55
  | .writeU23 _ => 0x56
  | .writeU24 _ => 0x57
  | .writeU25 _ => 0x58
  | .writeU26 _ => 0x59
  | .writeU27 _ => 0x5A
  | .writeU28 _ => 0x5B
  | .writeU29 _ => 0x5C
  | .writeU30 _ => 0x5D
  | .writeU31 _ => 0x5E
  | .writeU32 _ => 0x5F
  | .writeU33 _ => 0x60
  | .writeU34 _ => 0x61
  | .writeU35 _ => 0x62
  | .writeU36 _ => 0x63
  | .writeU37 _ => 0x64
  | .writeU38 _ => 0x65
  | .writeU39 _ => 0x66
  | .writeU40 _ => 0x67
  | .writeU41 _ => 0x68
  | .writeU42 _ => 0x69
  | .writeU43 _ => 0x6A
  | .writeU44 _ => 0x6B
  | .writeU45 _ => 0x6C
  | .writeU46 _ => 0x6D
  | .writeU47 _ => 0x6E
  | .writeU48 _ => 0x6F
  | .writeU49 _ => 0x70
  | .writeU50 _ => 0x71
  | .writeU51 _ => 0x72
  | .writeU52 _ => 0x73
  | .writeU53 _ => 0x74
  | .writeU54 _ => 0x75
  | .writeU55 _ => 0x76
  | .writeU56 _ => 0x77
  | .writeU57 _ => 0x78
  | .writeU58 _ => 0x79
  | .writeU59 _ => 0x7A
  | .writeU60 _ => 0x7B
  | .writeU61 _ => 0x7C
  | .writeU62 _ => 0x7D
  | .writeU63 _ => 0x7E
  | .writeU64 _ => 0x7F
  | .skip1 => 0x80
  | .skip2 => 0x81
  | .skip3 => 0x82
  | .skip4 => 0x83
  | .skip5 => 0x84
  | .skip6 => 0x85
  | .skip7 => 0x86
  | .skip8 => 0x87
  | .skip9 => 0x88
  | .skip10 => 0x89
  | .skip11 => 0x8A
  | .skip12 => 0x8B
  | .skip13 => 0x8C
  | .skip14 => 0x8D
  | .skip15 => 0x8E
  | .skip16 => 0x8F
  | .skip17 => 0x90
  | .skip18 => 0x91
  | .skip19 => 0x92
  | .skip20 => 0x93
  | .skip21 => 0x94
  | .skip22 => 0x95
  | .skip23 => 0x96
  | .skip24 => 0x97
  | .skip25 => 0x98
  | .skip26 => 0x99
  | .skip27 => 0x9A
  | .skip28 => 0x9B
  | .skip29 => 0x9C
  | .skip30 => 0x9D
  | .skip31 => 0x9E
  | .skip32 => 0x9F
  | .skip33 => 0xA0
  | .skip34 => 0xA1
  | .skip35 => 0xA2
  | .skip36 => 0xA3
  | .skip37 => 0xA4
  | .skip38 => 0xA5
  | .skip39 => 0xA6
  | .skip40 => 0xA7
  | .skip41 => 0xA8
  | .skip42 => 0xA9
  | .skip43 => 0xAA
  | .skip44 => 0xAB
  | .skip45 => 0xAC
  | .skip46 => 0xAD
  | .skip47 => 0xAE
  | .skip48 => 0xAF
  | .skip49 => 0xB0
  | .skip50 => 0xB1
  | .skip51 => 0xB2
  | .skip52 => 0xB3
  | .skip53 => 0xB4
  | .skip54 => 0xB5
  | .skip55 => 0xB6
  | .skip56 => 0xB7
  | .skip57 => 0xB8
  | .skip58 => 0xB9
  | .skip59 => 0xBA
  | .skip60 => 0xBB
  | .skip61 => 0xBC
  | .skip62 => 0xBD
  | .skip63 => 0xBE
  | .skip64 => 0xBF
  | .newRead _ _ => 0xC0
  | .newWrite _ _ => 0xC1
  | .getPos => 0xC2
  | .getRemaining => 0xC3
  | .advanceBits _ => 0xC4
  | .skipBits _ => 0xC5
  | .readUpToU8 _ => 0xC8
  | .readUpToU16 _ => 0xC9
  | .readUpToU32 _ => 0xCA
  | .readUpToU64 _ => 0xCB
  | .writeUpToU8 _ _ => 0xCC
  | .writeUpToU16 _ _ => 0xCD
  | .writeUpToU32 _ _ => 0xCE
  | .writeUpToU64 _ _ => 0xCF

/-- The `ARG` operand of a form, where it has one (R94). -/
def Form.arg : Form → Option Nat
  | .read _ => none
  | .write _ _ => none
  | .skip _ => none
  | .newRead _ off => some off
  | .newWrite _ off => some off
  | .getPos => none
  | .getRemaining => none
  | .advanceBits c => some c
  | .skipBits c => some c
  | .readUpTo _ n => some n
  | .writeUpTo _ _ n => some n

/-- The `LEN` operand of a form, where it has one: `NEW_READ` and `NEW_WRITE` only (R90, R94). -/
def Form.len : Form → Option Nat
  | .read _ => none
  | .write _ _ => none
  | .skip _ => none
  | .newRead len _ => some len
  | .newWrite len _ => some len
  | .getPos => none
  | .getRemaining => none
  | .advanceBits _ => none
  | .skipBits _ => none
  | .readUpTo _ _ => none
  | .writeUpTo _ _ _ => none

/-- The `VAL` operand of a form, where it has one: the write commands only (R90, R94). -/
def Form.val : Form → Option Data
  | .read _ => none
  | .write _ v => some v
  | .skip _ => none
  | .newRead _ _ => none
  | .newWrite _ _ => none
  | .getPos => none
  | .getRemaining => none
  | .advanceBits _ => none
  | .skipBits _ => none
  | .readUpTo _ _ => none
  | .writeUpTo _ v _ => some v

/-- The encoder: the command record of a command, with every unused field 0 (R90, R95). -/
def encode (i : Instr) : Command :=
  { op := i.opcode
    arg := i.form.arg.getD 0
    len := i.form.len.getD 0
    val := i.form.val.getD 0 }

/-- The canonical single-word packing `CMDW = VAL : LEN : ARG : OP`, `OP` in the low 8 bits (R90). -/
def Command.toWord (cfg : Config) (c : Command) : Nat :=
  c.op.toNat + 2 ^ 8 * (c.argBits cfg + 2 ^ cfg.pw * (c.lenBits cfg + 2 ^ cfg.aw * c.val.toNat))

/-- The command record of a word `CMDW`: `OP` in bits 7 to 0, `ARG` in bits `PW+7` to 8, `LEN` in bits
`PW+AW+7` to `PW+8`, `VAL` in the top 64 bits (R90). -/
def Command.ofWord (cfg : Config) (w : Nat) : Command :=
  { op := BitVec.ofNat 8 w
    arg := w / 2 ^ 8 % 2 ^ cfg.pw
    len := w / 2 ^ (8 + cfg.pw) % 2 ^ cfg.aw
    val := BitVec.ofNat 64 (w / 2 ^ (8 + cfg.pw + cfg.aw)) }

/-- The single word of a command (R90). -/
def encodeWord (cfg : Config) (i : Instr) : Nat := (encode i).toWord cfg

/-- The command that the decoder reads from the first `nbits` bits of a word laid out as `CMDW` at the
default `AW` (R90), all bits above them 0; `none` where the opcode is reserved. -/
def decodeTableWord (nbits w : Nat) : Option Instr :=
  match decode Config.default (Command.ofWord Config.default (w % 2 ^ nbits)) with
  | .instr i => some i
  | .reserved _ => none

end Sys2Proof
end

