-- ==== Sys2Proof/Machine/State.lean ====
section
/-! DEFINITION. The state of the machine: the engine's four registers (R21), the buffer it works on
(R31, R50), its memory port and response port as the last command left them (R52, R91), and the host's
side: the inputs it has yet to present and its direct accesses to the buffer (R20, R28, R548). Plain data
throughout. -/

namespace Sys2Proof.Machine

/-- `MODE` (R23): three values; the fourth 2-bit code is never held (U9). -/
inductive Mode where
  /-- No cursor has been constructed since reset. -/
  | unbound
  /-- A read-mode cursor is active. -/
  | read
  /-- A write-mode cursor is active. -/
  | write
deriving DecidableEq, Repr

/-- The buffer memory (R31, R50): the bytes known to have been stored, as (offset, byte) pairs with
offsets strictly rising. An offset that is not listed holds no known byte: what a read of it returns is
`Memory.byteAt` (log entry 2). -/
abbrev Memory := List Host.Cell

/-- One byte lane of the memory port during a command (R52). `rdata` is the byte read, absent when
`RE_j = 0`; `wdata` is the byte to store, absent when `WE_j = 0`. -/
structure Lane where
  rdata : Option Byte
  wdata : Option Byte
deriving DecidableEq, Repr

/-- The memory port (R52) as the last command drove it: `addr` is `ADDR`, equal to the `BYTE_IDX` of
before the command; `lanes` are the nine lanes 0 to 8, lane `j` tied to byte offset `addr + j`. -/
structure MemPort where
  addr  : Nat
  lanes : List Lane
deriving DecidableEq, Repr

/-- The response that ends a command (R91): `ok` with the 64-bit `DATA` where R104 defines it and
without it elsewhere, or one of the two errors, which carry no data. -/
inductive Response where
  | ok (data : Option Data)
  | outOfRange
  | illegal
deriving DecidableEq, Repr

/-- What the outside world can do to the machine (R20, R548). -/
inductive HostInput where
  /-- The host presents a command on the command port (R90). -/
  | command (c : Command)
  /-- Reset is asserted between commands (R540). -/
  | reset
  /-- Reset is asserted while the engine executes the command (R541). -/
  | resetDuring (c : Command)
  /-- The host stores a byte in the buffer directly (R68, R548). -/
  | bufferWrite (a : Nat) (v : Byte)
  /-- The host reads a byte of the buffer directly (R68, R548). -/
  | bufferRead (a : Nat)
deriving DecidableEq, Repr

/-- Why the machine stops with a fault. -/
inductive Fault where
  /-- Raised by the shared read and write operations when a lane would access a byte offset that the
  address map says does not exist, `a >= LEN_BYTES` (R9, R52, R64). The range check comes first, so no
  command reaches it (R54). SAFE: the model stops. -/
  | outsideBuffer (a : Nat)
deriving DecidableEq, Repr

/-- Why a step has no meaning. -/
inductive Refusal where
  /-- Raised by `exec` for a command without a meaning; no arm of this model uses it. SAFE. -/
  | notModelled (mnemonic : String)
  /-- Raised by the command port when the host uses a cursor over whose buffer it broke the premise of
  exclusive access (R68, R547); the spec gives such a run no meaning (U3: refuse). SAFE. -/
  | sharedBuffer
deriving DecidableEq, Repr

/-- The whole state. The first five fields after `cfg` are the engine's registers and its buffer; the
rest are its ports and the host's side (see `INVENTORY.md`, State). -/
structure State where
  /-- The parameter `AW` (R4, R36), never changed by a step. -/
  cfg : Config
  /-- `MODE`, 2 bits (R23). -/
  mode : Mode
  /-- `BYTE_IDX`, `AW` bits (R22). -/
  byteIdx : Nat
  /-- `BIT_IDX`, 3 bits (R22). -/
  bitIdx : BitVec 3
  /-- `LEN_BYTES`, `AW` bits (R24). -/
  lenBytes : Nat
  /-- The buffer bytes (R31, R50). -/
  mem : Memory
  /-- The memory port during the last command (R52). -/
  port : MemPort
  /-- The response to the last command (R91); `none` before the first one. -/
  response : Option Response
  /-- The host's inputs still to come, first one first (R28, R546, R552). -/
  inputs : List HostInput
  /-- The byte the host's last direct read of the buffer returned (R548). -/
  hostData : Option Byte
  /-- MODEL. The host broke exclusive access to the active cursor's buffer (R68, R547). -/
  shared : Bool
  /-- MODEL. How many resets have interrupted a command: the index of the next draw of
  `Config.abortStores` (R541, U5). -/
  aborts : Nat
deriving DecidableEq, Repr

/-- What one step or one command answers. -/
abbrev Result := Host.Outcome State Fault Refusal

/-- An idle lane: no access (R52). -/
def Lane.idle : Lane := ⟨none, none⟩

/-- The port at byte offset `b` with the given first lanes and the rest of the nine idle (R52). -/
def MemPort.drive (b : Nat) (lanes : List Lane) : MemPort :=
  ⟨b, lanes ++ List.replicate (9 - lanes.length) Lane.idle⟩

/-- The machine right after reset (R33, R540): `MODE = UNBOUND`, the other registers 0, no buffer byte
known, no command executed, and `AW` at the spec's default. -/
def State.reset : State :=
  { cfg := Config.default
    mode := .unbound
    byteIdx := 0
    bitIdx := 0
    lenBytes := 0
    mem := []
    port := MemPort.drive 0 []
    response := none
    inputs := []
    hostData := none
    shared := false
    aborts := 0 }

end Sys2Proof.Machine
end

