-- ==== Sys2Proof/Machine/Flags.lean ====
section
/-! DEFINITION. The engine has no flag (R29): the outcome of a command is only in its response. This file
holds the status of a response and the numeric codes of `STATUS` and `MODE` (R23, R91, R501, R502). -/

namespace Sys2Proof.Machine

/-- `STATUS` (R91). -/
inductive Status where
  | ok
  | outOfRange
  | illegal
deriving DecidableEq, Repr

/-- The status a response carries (R91). -/
def Response.status : Response → Status
  | .ok _ => .ok
  | .outOfRange => .outOfRange
  | .illegal => .illegal

/-- `DATA`, where the response defines it (R91, R104). -/
def Response.data : Response → Option Data
  | .ok d => d
  | .outOfRange => none
  | .illegal => none

/-- The 2-bit code of a status; 3 is never produced (R91). -/
def Status.code : Status → BitVec 2
  | .ok => 0
  | .outOfRange => 1
  | .illegal => 2

/-- The 2-bit code of a mode; 3 is never held (R23). -/
def Mode.code : Mode → BitVec 2
  | .unbound => 0
  | .read => 1
  | .write => 2

end Sys2Proof.Machine
end

