-- ==== Sys2Proof/Machine/Operands.lean ====
section
/-! DEFINITION. The arithmetic of positions and fields: masks, the width dispatch, the derived position
values, the touched bytes, the lane masks, the extractor and the inserter (`00_scope.md` R6 to R10,
`20_memory.md` R53, R75, `42_read_primitives.md` R150, `44_write_primitives.md` R170). Exact over the
natural numbers (R10); a cut to a width is written as a conversion to `BitVec`. -/

namespace Sys2Proof.Machine

/-- `mask(n) = 2^n - 1` (R7). -/
def mask (n : Nat) : Nat := 2 ^ n - 1

/-- `Wd(N)`: the smallest primitive width that holds `N` bits (R8). -/
def wd (n : Nat) : Nat :=
  if n ≤ 8 then 8 else if n ≤ 16 then 16 else if n ≤ 32 then 32 else 64

/-- `POS = 8 * BYTE_IDX + BIT_IDX` (R6). -/
def State.pos (s : State) : Nat := 8 * s.byteIdx + s.bitIdx.toNat

/-- `LEN_BITS = 8 * LEN_BYTES` (R6, R24). -/
def State.lenBits (s : State) : Nat := 8 * s.lenBytes

/-- `REMAINING = LEN_BITS - POS` (R9). -/
def State.remaining (s : State) : Nat := s.lenBits - s.pos

/-- `K(o, n) = (o + n + 7) div 8`, the number of touched bytes (R53). -/
def touched (o n : Nat) : Nat := (o + n + 7) / 8

/-- `LM(o, n, j)`, the bits of touched byte `j` that belong to the field (R75). -/
def laneMask (o n j : Nat) : Byte := BitVec.ofNat 8 (mask n <<< o >>> (8 * j))

/-- `window`: the bytes read, lane 0 in the low 8 bits (R150). -/
def window : List Byte → Nat
  | [] => 0
  | b :: bs => b.toNat + window bs <<< 8

/-- `zext_64((window >> o) & mask(n))`, the extracted field (R150, R104). -/
def extractField (o n w : Nat) : Data := BitVec.ofNat 64 ((w >>> o) &&& mask n)

/-- `ins = (v & mask(n)) << o`, the field in place (R170). -/
def insertion (o n : Nat) (v : Data) : Nat := (v.toNat &&& mask n) <<< o

/-- `d_j`, the field's bits for touched byte `j` (R170). -/
def laneData (o n : Nat) (v : Data) (j : Nat) : Byte :=
  BitVec.ofNat 8 (insertion o n v >>> (8 * j))

/-- `new_j`: a fully covered byte is overwritten, a partial one is masked and or-ed (R170). -/
def mergeByte (m d old : Byte) : Byte :=
  if m = 0xFF then d else (old &&& ~~~m) ||| d

end Sys2Proof.Machine
end

