-- ==== Sys2Proof/Machine/Ops.lean ====
section
/-! DEFINITION. The named operations over the buffer and the registers, and the shared bodies of the
command families: ending a command (with a value or with an error), the advance, `Skip`, `Read`,
`Write` and construction. -/

namespace Sys2Proof.Machine

/-! ### The buffer -/

/-- The byte listed at offset `a`, if one has been stored there. -/
def Memory.listed : Memory → Nat → Option Byte
  | [], _ => none
  | (b, v) :: m, a => if a = b then some v else listed m a

/-- `Mem[a]` (R9, R51): the byte last stored, or the free byte of a place never written (R33, U7). -/
def Memory.byteAt (m : Memory) (a : Nat) : Byte := (m.listed a).getD (Config.startByte a)

/-- `Mem[a] <- v` (R9, R51). -/
def Memory.store : Memory → Nat → Byte → Memory
  | [], a, v => [(a, v)]
  | (b, w) :: m, a, v =>
    if a < b then (a, v) :: (b, w) :: m
    else if a = b then (a, v) :: m
    else (b, w) :: store m a v

/-- The listed offsets rise strictly and start above `a`. -/
def Memory.risingAbove (a : Nat) : Memory → Bool
  | [] => true
  | (b, _) :: m => a < b && risingAbove b m

/-- The canonical form: offsets strictly rising. An unlisted offset reads as no known byte, so no entry
can equal it. -/
def Memory.wf : Memory → Bool
  | [] => true
  | (b, _) :: m => risingAbove b m

/-- The bytes at offsets `b` to `b + k - 1`. -/
def Memory.bytesFrom (m : Memory) (b : Nat) : Nat → List Byte
  | 0 => []
  | k + 1 => m.byteAt b :: bytesFrom m (b + 1) k

/-- Every lane's `MemWrite`, lane 0 at offset `b`: a lane with its write-enable off stores nothing
(R52). -/
def Memory.storeLanes (m : Memory) (b : Nat) : List Lane → Memory
  | [] => m
  | l :: ls =>
    match l.wdata with
    | some v => storeLanes (m.store b v) (b + 1) ls
    | none => storeLanes m (b + 1) ls

/-! ### Register and port updates -/

/-- The command drives these lanes of the memory port and ends with this response (R52, R91). -/
def State.finish (s : State) (lanes : List Lane) (r : Response) : State :=
  { s with port := MemPort.drive s.byteIdx lanes, response := some r }

/-- The advance by `n` bits, in its two-register form (R140). -/
def State.advance (s : State) (n : Nat) : State :=
  { s with
    byteIdx := s.byteIdx + (s.bitIdx.toNat + n) / 8
    bitIdx := BitVec.ofNat 3 ((s.bitIdx.toNat + n) % 8) }

/-- The buffer's new contents. -/
def State.withMem (s : State) (m : Memory) : State := { s with mem := m }

/-- The four register writes of a construction (R130, R131). The new cursor starts with exclusive access
(R547). -/
def State.bind (s : State) (mode : Mode) (len off : Nat) : State :=
  { s with
    mode := mode
    lenBytes := len
    byteIdx := off / 8
    bitIdx := BitVec.ofNat 3 (off % 8)
    shared := false }

/-- Reset (R33, R540): the registers at their reset values and the ports idle; the buffer, the parameter
and the host's inputs are not the engine's and stay. -/
def State.resetEngine (s : State) : State :=
  { s with
    mode := .unbound
    byteIdx := 0
    bitIdx := 0
    lenBytes := 0
    port := MemPort.drive 0 []
    response := none
    shared := false }

/-! ### Taking an error, and the return from one

The engine's exceptions are its non-OK statuses (R500). Taking one is the response and nothing more: no
state is saved, no mode changes and control goes nowhere (R512). There is no return from one: the next
command simply runs from the unchanged state (R513). -/

/-- `raise Illegal` and `raise OutOfRange` (R9, R500, R503, R504, R512): the response is given, no
register changes, no lane of the memory port is active. -/
def raiseStatus (r : Response) (s : State) : Result := .next (s.finish [] r)

/-! ### The shared bodies of the commands -/

/-- `Skip(count)` (R142). -/
def skip (count : Nat) (s : State) : Result :=
  if s.remaining < count then raiseStatus .outOfRange s
  else .next ((s.finish [] (.ok none)).advance count)

/-- `SKIP_N`: refused in UNBOUND, `Skip(N)` in READ and WRITE (R400). -/
def skipFixed (n : Nat) (s : State) : Result :=
  if s.mode = .unbound then raiseStatus .illegal s else skip n s

/-- The lanes of a read of the bytes: each is read, none is written (R52, R60). -/
def readLanes (bytes : List Byte) : List Lane := bytes.map fun b => ⟨some b, none⟩

/-- `Read(W, n)` (R150). -/
def readField (w n : Nat) (s : State) : Result :=
  if s.mode ≠ .read then raiseStatus .illegal s
  else if n < 1 ∨ w < n then raiseStatus .illegal s
  else if s.remaining < n then raiseStatus .outOfRange s
  else
    let k := touched s.bitIdx.toNat n
    if s.lenBytes < s.byteIdx + k then .fault (.outsideBuffer (s.byteIdx + k - 1))
    else
      let bytes := s.mem.bytesFrom s.byteIdx k
      let data := extractField s.bitIdx.toNat n (window bytes)
      .next ((s.finish (readLanes bytes) (.ok (some data))).advance n)

/-- Lane `j` of a write (R170, R60): the byte is read only when it is partially covered, and the merged
byte is stored. -/
def writeLane (m : Memory) (b o n : Nat) (v : Data) (j : Nat) : Lane :=
  let msk := laneMask o n j
  let old := m.byteAt (b + j)
  { rdata := if msk = 0xFF then none else some old
    wdata := some (mergeByte msk (laneData o n v j) old) }

/-- The `K(o, n)` lanes of a write; every byte is read from the buffer of before the command (R66). -/
def writeLanes (m : Memory) (b o n : Nat) (v : Data) : List Lane :=
  (List.range (touched o n)).map (writeLane m b o n v)

/-- `Write(W, v, n)` (R170). -/
def writeField (w : Nat) (v : Data) (n : Nat) (s : State) : Result :=
  if s.mode ≠ .write then raiseStatus .illegal s
  else if n < 1 ∨ w < n then raiseStatus .illegal s
  else if s.remaining < n then raiseStatus .outOfRange s
  else
    let k := touched s.bitIdx.toNat n
    if s.lenBytes < s.byteIdx + k then .fault (.outsideBuffer (s.byteIdx + k - 1))
    else
      let lanes := writeLanes s.mem s.byteIdx s.bitIdx.toNat n v
      .next (((s.finish lanes (.ok none)).withMem (s.mem.storeLanes s.byteIdx lanes)).advance n)

/-- The body of `NEW_READ` and `NEW_WRITE` (R130, R131). -/
def newCursor (mode : Mode) (len off : Nat) (s : State) : Result :=
  if 8 * len < off then raiseStatus .outOfRange s
  else .next ((s.finish [] (.ok none)).bind mode len off)

/-- A query: illegal in UNBOUND, else the value on `DATA` and no state change (R132, R133). -/
def query (value : Nat) (s : State) : Result :=
  if s.mode = .unbound then raiseStatus .illegal s
  else .next (s.finish [] (.ok (some (BitVec.ofNat 64 value))))

end Sys2Proof.Machine
end

