-- ==== Sys2Proof/Machine/Construct.lean ====
section
/-! DEFINITION. The meanings of the construction and query commands (`40_construct_query.md`). -/

namespace Sys2Proof.Machine

/-- `NEW_READ len, off` (R130). -/
def execNewRead (len off : Nat) (s : State) : Result := newCursor .read len off s

/-- `NEW_WRITE len, off` (R131). -/
def execNewWrite (len off : Nat) (s : State) : Result := newCursor .write len off s

/-- `GET_POS` (R132). -/
def execGetPos (s : State) : Result := query (8 * s.byteIdx + s.bitIdx.toNat) s

/-- `GET_REMAINING` (R133). -/
def execGetRemaining (s : State) : Result :=
  query (8 * s.lenBytes - (8 * s.byteIdx + s.bitIdx.toNat)) s

end Sys2Proof.Machine
end

