-- ==== Sys2Proof/Machine/Position.lean ====
section
/-! DEFINITION. The meanings of the two skip primitives (`41_position.md` R143, R144). -/

namespace Sys2Proof.Machine

/-- `ADVANCE_BITS count`, the read-mode skip (R143). -/
def execAdvanceBits (count : Nat) (s : State) : Result :=
  if s.mode ≠ .read then raiseStatus .illegal s else skip count s

/-- `SKIP_BITS count`, the write-mode skip (R144). -/
def execSkipBits (count : Nat) (s : State) : Result :=
  if s.mode ≠ .write then raiseStatus .illegal s else skip count s

end Sys2Proof.Machine
end

