-- ==== Sys2Proof/Machine/Primitives.lean ====
section
/-! DEFINITION. The meanings of the read primitives (`42_read_primitives.md` R151 to R154) and of the write
primitives (`44_write_primitives.md` R171 to R174). -/

namespace Sys2Proof.Machine

/-- `READ_UP_TO_U8 bit_count` is `Read(8, bit_count)` (R151). -/
def execReadUpToU8 (bitCount : Nat) (s : State) : Result := readField 8 bitCount s

/-- `READ_UP_TO_U16 bit_count` is `Read(16, bit_count)` (R152). -/
def execReadUpToU16 (bitCount : Nat) (s : State) : Result := readField 16 bitCount s

/-- `READ_UP_TO_U32 bit_count` is `Read(32, bit_count)` (R153). -/
def execReadUpToU32 (bitCount : Nat) (s : State) : Result := readField 32 bitCount s

/-- `READ_UP_TO_U64 bit_count` is `Read(64, bit_count)` (R154). -/
def execReadUpToU64 (bitCount : Nat) (s : State) : Result := readField 64 bitCount s

/-- `WRITE_UP_TO_U8 value, bit_count` is `Write(8, value, bit_count)` (R171). -/
def execWriteUpToU8 (value : Data) (bitCount : Nat) (s : State) : Result :=
  writeField 8 value bitCount s

/-- `WRITE_UP_TO_U16 value, bit_count` is `Write(16, value, bit_count)` (R172). -/
def execWriteUpToU16 (value : Data) (bitCount : Nat) (s : State) : Result :=
  writeField 16 value bitCount s

/-- `WRITE_UP_TO_U32 value, bit_count` is `Write(32, value, bit_count)` (R173). -/
def execWriteUpToU32 (value : Data) (bitCount : Nat) (s : State) : Result :=
  writeField 32 value bitCount s

/-- `WRITE_UP_TO_U64 value, bit_count` is `Write(64, value, bit_count)` (R174). -/
def execWriteUpToU64 (value : Data) (bitCount : Nat) (s : State) : Result :=
  writeField 64 value bitCount s

end Sys2Proof.Machine
end

