-- ==== Sys2Proof/Machine/ReadWrappers.lean ====
section
/-! DEFINITION. The meanings of the fixed-width reads `READ_U1` to `READ_U64`: each is exactly `Read(Wd(N), N)`
(`43_read_wrappers.md` R200, R201 to R264). -/

namespace Sys2Proof.Machine

/-- `READ_U1` is `Read(8, 1)` (R201). -/
def execReadU1 (s : State) : Result := readField 8 1 s

/-- `READ_U2` is `Read(8, 2)` (R202). -/
def execReadU2 (s : State) : Result := readField 8 2 s

/-- `READ_U3` is `Read(8, 3)` (R203). -/
def execReadU3 (s : State) : Result := readField 8 3 s

/-- `READ_U4` is `Read(8, 4)` (R204). -/
def execReadU4 (s : State) : Result := readField 8 4 s

/-- `READ_U5` is `Read(8, 5)` (R205). -/
def execReadU5 (s : State) : Result := readField 8 5 s

/-- `READ_U6` is `Read(8, 6)` (R206). -/
def execReadU6 (s : State) : Result := readField 8 6 s

/-- `READ_U7` is `Read(8, 7)` (R207). -/
def execReadU7 (s : State) : Result := readField 8 7 s

/-- `READ_U8` is `Read(8, 8)` (R208). -/
def execReadU8 (s : State) : Result := readField 8 8 s

/-- `READ_U9` is `Read(16, 9)` (R209). -/
def execReadU9 (s : State) : Result := readField 16 9 s

/-- `READ_U10` is `Read(16, 10)` (R210). -/
def execReadU10 (s : State) : Result := readField 16 10 s

/-- `READ_U11` is `Read(16, 11)` (R211). -/
def execReadU11 (s : State) : Result := readField 16 11 s

/-- `READ_U12` is `Read(16, 12)` (R212). -/
def execReadU12 (s : State) : Result := readField 16 12 s

/-- `READ_U13` is `Read(16, 13)` (R213). -/
def execReadU13 (s : State) : Result := readField 16 13 s

/-- `READ_U14` is `Read(16, 14)` (R214). -/
def execReadU14 (s : State) : Result := readField 16 14 s

/-- `READ_U15` is `Read(16, 15)` (R215). -/
def execReadU15 (s : State) : Result := readField 16 15 s

/-- `READ_U16` is `Read(16, 16)` (R216). -/
def execReadU16 (s : State) : Result := readField 16 16 s

/-- `READ_U17` is `Read(32, 17)` (R217). -/
def execReadU17 (s : State) : Result := readField 32 17 s

/-- `READ_U18` is `Read(32, 18)` (R218). -/
def execReadU18 (s : State) : Result := readField 32 18 s

/-- `READ_U19` is `Read(32, 19)` (R219). -/
def execReadU19 (s : State) : Result := readField 32 19 s

/-- `READ_U20` is `Read(32, 20)` (R220). -/
def execReadU20 (s : State) : Result := readField 32 20 s

/-- `READ_U21` is `Read(32, 21)` (R221). -/
def execReadU21 (s : State) : Result := readField 32 21 s

/-- `READ_U22` is `Read(32, 22)` (R222). -/
def execReadU22 (s : State) : Result := readField 32 22 s

/-- `READ_U23` is `Read(32, 23)` (R223). -/
def execReadU23 (s : State) : Result := readField 32 23 s

/-- `READ_U24` is `Read(32, 24)` (R224). -/
def execReadU24 (s : State) : Result := readField 32 24 s

/-- `READ_U25` is `Read(32, 25)` (R225). -/
def execReadU25 (s : State) : Result := readField 32 25 s

/-- `READ_U26` is `Read(32, 26)` (R226). -/
def execReadU26 (s : State) : Result := readField 32 26 s

/-- `READ_U27` is `Read(32, 27)` (R227). -/
def execReadU27 (s : State) : Result := readField 32 27 s

/-- `READ_U28` is `Read(32, 28)` (R228). -/
def execReadU28 (s : State) : Result := readField 32 28 s

/-- `READ_U29` is `Read(32, 29)` (R229). -/
def execReadU29 (s : State) : Result := readField 32 29 s

/-- `READ_U30` is `Read(32, 30)` (R230). -/
def execReadU30 (s : State) : Result := readField 32 30 s

/-- `READ_U31` is `Read(32, 31)` (R231). -/
def execReadU31 (s : State) : Result := readField 32 31 s

/-- `READ_U32` is `Read(32, 32)` (R232). -/
def execReadU32 (s : State) : Result := readField 32 32 s

/-- `READ_U33` is `Read(64, 33)` (R233). -/
def execReadU33 (s : State) : Result := readField 64 33 s

/-- `READ_U34` is `Read(64, 34)` (R234). -/
def execReadU34 (s : State) : Result := readField 64 34 s

/-- `READ_U35` is `Read(64, 35)` (R235). -/
def execReadU35 (s : State) : Result := readField 64 35 s

/-- `READ_U36` is `Read(64, 36)` (R236). -/
def execReadU36 (s : State) : Result := readField 64 36 s

/-- `READ_U37` is `Read(64, 37)` (R237). -/
def execReadU37 (s : State) : Result := readField 64 37 s

/-- `READ_U38` is `Read(64, 38)` (R238). -/
def execReadU38 (s : State) : Result := readField 64 38 s

/-- `READ_U39` is `Read(64, 39)` (R239). -/
def execReadU39 (s : State) : Result := readField 64 39 s

/-- `READ_U40` is `Read(64, 40)` (R240). -/
def execReadU40 (s : State) : Result := readField 64 40 s

/-- `READ_U41` is `Read(64, 41)` (R241). -/
def execReadU41 (s : State) : Result := readField 64 41 s

/-- `READ_U42` is `Read(64, 42)` (R242). -/
def execReadU42 (s : State) : Result := readField 64 42 s

/-- `READ_U43` is `Read(64, 43)` (R243). -/
def execReadU43 (s : State) : Result := readField 64 43 s

/-- `READ_U44` is `Read(64, 44)` (R244). -/
def execReadU44 (s : State) : Result := readField 64 44 s

/-- `READ_U45` is `Read(64, 45)` (R245). -/
def execReadU45 (s : State) : Result := readField 64 45 s

/-- `READ_U46` is `Read(64, 46)` (R246). -/
def execReadU46 (s : State) : Result := readField 64 46 s

/-- `READ_U47` is `Read(64, 47)` (R247). -/
def execReadU47 (s : State) : Result := readField 64 47 s

/-- `READ_U48` is `Read(64, 48)` (R248). -/
def execReadU48 (s : State) : Result := readField 64 48 s

/-- `READ_U49` is `Read(64, 49)` (R249). -/
def execReadU49 (s : State) : Result := readField 64 49 s

/-- `READ_U50` is `Read(64, 50)` (R250). -/
def execReadU50 (s : State) : Result := readField 64 50 s

/-- `READ_U51` is `Read(64, 51)` (R251). -/
def execReadU51 (s : State) : Result := readField 64 51 s

/-- `READ_U52` is `Read(64, 52)` (R252). -/
def execReadU52 (s : State) : Result := readField 64 52 s

/-- `READ_U53` is `Read(64, 53)` (R253). -/
def execReadU53 (s : State) : Result := readField 64 53 s

/-- `READ_U54` is `Read(64, 54)` (R254). -/
def execReadU54 (s : State) : Result := readField 64 54 s

/-- `READ_U55` is `Read(64, 55)` (R255). -/
def execReadU55 (s : State) : Result := readField 64 55 s

/-- `READ_U56` is `Read(64, 56)` (R256). -/
def execReadU56 (s : State) : Result := readField 64 56 s

/-- `READ_U57` is `Read(64, 57)` (R257). -/
def execReadU57 (s : State) : Result := readField 64 57 s

/-- `READ_U58` is `Read(64, 58)` (R258). -/
def execReadU58 (s : State) : Result := readField 64 58 s

/-- `READ_U59` is `Read(64, 59)` (R259). -/
def execReadU59 (s : State) : Result := readField 64 59 s

/-- `READ_U60` is `Read(64, 60)` (R260). -/
def execReadU60 (s : State) : Result := readField 64 60 s

/-- `READ_U61` is `Read(64, 61)` (R261). -/
def execReadU61 (s : State) : Result := readField 64 61 s

/-- `READ_U62` is `Read(64, 62)` (R262). -/
def execReadU62 (s : State) : Result := readField 64 62 s

/-- `READ_U63` is `Read(64, 63)` (R263). -/
def execReadU63 (s : State) : Result := readField 64 63 s

/-- `READ_U64` is `Read(64, 64)` (R264). -/
def execReadU64 (s : State) : Result := readField 64 64 s

end Sys2Proof.Machine
end

