-- ==== Sys2Proof/Machine/SkipWrappers.lean ====
section
/-! DEFINITION. The meanings of the fixed-width skips `SKIP_1` to `SKIP_64`: illegal in UNBOUND, `Skip(N)` in READ and
WRITE (`47_skip_wrappers.md` R400, R401 to R464). -/

namespace Sys2Proof.Machine

/-- `SKIP_1` is `Skip(1)` in both bound modes (R401). -/
def execSkip1 (s : State) : Result := skipFixed 1 s

/-- `SKIP_2` is `Skip(2)` in both bound modes (R402). -/
def execSkip2 (s : State) : Result := skipFixed 2 s

/-- `SKIP_3` is `Skip(3)` in both bound modes (R403). -/
def execSkip3 (s : State) : Result := skipFixed 3 s

/-- `SKIP_4` is `Skip(4)` in both bound modes (R404). -/
def execSkip4 (s : State) : Result := skipFixed 4 s

/-- `SKIP_5` is `Skip(5)` in both bound modes (R405). -/
def execSkip5 (s : State) : Result := skipFixed 5 s

/-- `SKIP_6` is `Skip(6)` in both bound modes (R406). -/
def execSkip6 (s : State) : Result := skipFixed 6 s

/-- `SKIP_7` is `Skip(7)` in both bound modes (R407). -/
def execSkip7 (s : State) : Result := skipFixed 7 s

/-- `SKIP_8` is `Skip(8)` in both bound modes (R408). -/
def execSkip8 (s : State) : Result := skipFixed 8 s

/-- `SKIP_9` is `Skip(9)` in both bound modes (R409). -/
def execSkip9 (s : State) : Result := skipFixed 9 s

/-- `SKIP_10` is `Skip(10)` in both bound modes (R410). -/
def execSkip10 (s : State) : Result := skipFixed 10 s

/-- `SKIP_11` is `Skip(11)` in both bound modes (R411). -/
def execSkip11 (s : State) : Result := skipFixed 11 s

/-- `SKIP_12` is `Skip(12)` in both bound modes (R412). -/
def execSkip12 (s : State) : Result := skipFixed 12 s

/-- `SKIP_13` is `Skip(13)` in both bound modes (R413). -/
def execSkip13 (s : State) : Result := skipFixed 13 s

/-- `SKIP_14` is `Skip(14)` in both bound modes (R414). -/
def execSkip14 (s : State) : Result := skipFixed 14 s

/-- `SKIP_15` is `Skip(15)` in both bound modes (R415). -/
def execSkip15 (s : State) : Result := skipFixed 15 s

/-- `SKIP_16` is `Skip(16)` in both bound modes (R416). -/
def execSkip16 (s : State) : Result := skipFixed 16 s

/-- `SKIP_17` is `Skip(17)` in both bound modes (R417). -/
def execSkip17 (s : State) : Result := skipFixed 17 s

/-- `SKIP_18` is `Skip(18)` in both bound modes (R418). -/
def execSkip18 (s : State) : Result := skipFixed 18 s

/-- `SKIP_19` is `Skip(19)` in both bound modes (R419). -/
def execSkip19 (s : State) : Result := skipFixed 19 s

/-- `SKIP_20` is `Skip(20)` in both bound modes (R420). -/
def execSkip20 (s : State) : Result := skipFixed 20 s

/-- `SKIP_21` is `Skip(21)` in both bound modes (R421). -/
def execSkip21 (s : State) : Result := skipFixed 21 s

/-- `SKIP_22` is `Skip(22)` in both bound modes (R422). -/
def execSkip22 (s : State) : Result := skipFixed 22 s

/-- `SKIP_23` is `Skip(23)` in both bound modes (R423). -/
def execSkip23 (s : State) : Result := skipFixed 23 s

/-- `SKIP_24` is `Skip(24)` in both bound modes (R424). -/
def execSkip24 (s : State) : Result := skipFixed 24 s

/-- `SKIP_25` is `Skip(25)` in both bound modes (R425). -/
def execSkip25 (s : State) : Result := skipFixed 25 s

/-- `SKIP_26` is `Skip(26)` in both bound modes (R426). -/
def execSkip26 (s : State) : Result := skipFixed 26 s

/-- `SKIP_27` is `Skip(27)` in both bound modes (R427). -/
def execSkip27 (s : State) : Result := skipFixed 27 s

/-- `SKIP_28` is `Skip(28)` in both bound modes (R428). -/
def execSkip28 (s : State) : Result := skipFixed 28 s

/-- `SKIP_29` is `Skip(29)` in both bound modes (R429). -/
def execSkip29 (s : State) : Result := skipFixed 29 s

/-- `SKIP_30` is `Skip(30)` in both bound modes (R430). -/
def execSkip30 (s : State) : Result := skipFixed 30 s

/-- `SKIP_31` is `Skip(31)` in both bound modes (R431). -/
def execSkip31 (s : State) : Result := skipFixed 31 s

/-- `SKIP_32` is `Skip(32)` in both bound modes (R432). -/
def execSkip32 (s : State) : Result := skipFixed 32 s

/-- `SKIP_33` is `Skip(33)` in both bound modes (R433). -/
def execSkip33 (s : State) : Result := skipFixed 33 s

/-- `SKIP_34` is `Skip(34)` in both bound modes (R434). -/
def execSkip34 (s : State) : Result := skipFixed 34 s

/-- `SKIP_35` is `Skip(35)` in both bound modes (R435). -/
def execSkip35 (s : State) : Result := skipFixed 35 s

/-- `SKIP_36` is `Skip(36)` in both bound modes (R436). -/
def execSkip36 (s : State) : Result := skipFixed 36 s

/-- `SKIP_37` is `Skip(37)` in both bound modes (R437). -/
def execSkip37 (s : State) : Result := skipFixed 37 s

/-- `SKIP_38` is `Skip(38)` in both bound modes (R438). -/
def execSkip38 (s : State) : Result := skipFixed 38 s

/-- `SKIP_39` is `Skip(39)` in both bound modes (R439). -/
def execSkip39 (s : State) : Result := skipFixed 39 s

/-- `SKIP_40` is `Skip(40)` in both bound modes (R440). -/
def execSkip40 (s : State) : Result := skipFixed 40 s

/-- `SKIP_41` is `Skip(41)` in both bound modes (R441). -/
def execSkip41 (s : State) : Result := skipFixed 41 s

/-- `SKIP_42` is `Skip(42)` in both bound modes (R442). -/
def execSkip42 (s : State) : Result := skipFixed 42 s

/-- `SKIP_43` is `Skip(43)` in both bound modes (R443). -/
def execSkip43 (s : State) : Result := skipFixed 43 s

/-- `SKIP_44` is `Skip(44)` in both bound modes (R444). -/
def execSkip44 (s : State) : Result := skipFixed 44 s

/-- `SKIP_45` is `Skip(45)` in both bound modes (R445). -/
def execSkip45 (s : State) : Result := skipFixed 45 s

/-- `SKIP_46` is `Skip(46)` in both bound modes (R446). -/
def execSkip46 (s : State) : Result := skipFixed 46 s

/-- `SKIP_47` is `Skip(47)` in both bound modes (R447). -/
def execSkip47 (s : State) : Result := skipFixed 47 s

/-- `SKIP_48` is `Skip(48)` in both bound modes (R448). -/
def execSkip48 (s : State) : Result := skipFixed 48 s

/-- `SKIP_49` is `Skip(49)` in both bound modes (R449). -/
def execSkip49 (s : State) : Result := skipFixed 49 s

/-- `SKIP_50` is `Skip(50)` in both bound modes (R450). -/
def execSkip50 (s : State) : Result := skipFixed 50 s

/-- `SKIP_51` is `Skip(51)` in both bound modes (R451). -/
def execSkip51 (s : State) : Result := skipFixed 51 s

/-- `SKIP_52` is `Skip(52)` in both bound modes (R452). -/
def execSkip52 (s : State) : Result := skipFixed 52 s

/-- `SKIP_53` is `Skip(53)` in both bound modes (R453). -/
def execSkip53 (s : State) : Result := skipFixed 53 s

/-- `SKIP_54` is `Skip(54)` in both bound modes (R454). -/
def execSkip54 (s : State) : Result := skipFixed 54 s

/-- `SKIP_55` is `Skip(55)` in both bound modes (R455). -/
def execSkip55 (s : State) : Result := skipFixed 55 s

/-- `SKIP_56` is `Skip(56)` in both bound modes (R456). -/
def execSkip56 (s : State) : Result := skipFixed 56 s

/-- `SKIP_57` is `Skip(57)` in both bound modes (R457). -/
def execSkip57 (s : State) : Result := skipFixed 57 s

/-- `SKIP_58` is `Skip(58)` in both bound modes (R458). -/
def execSkip58 (s : State) : Result := skipFixed 58 s

/-- `SKIP_59` is `Skip(59)` in both bound modes (R459). -/
def execSkip59 (s : State) : Result := skipFixed 59 s

/-- `SKIP_60` is `Skip(60)` in both bound modes (R460). -/
def execSkip60 (s : State) : Result := skipFixed 60 s

/-- `SKIP_61` is `Skip(61)` in both bound modes (R461). -/
def execSkip61 (s : State) : Result := skipFixed 61 s

/-- `SKIP_62` is `Skip(62)` in both bound modes (R462). -/
def execSkip62 (s : State) : Result := skipFixed 62 s

/-- `SKIP_63` is `Skip(63)` in both bound modes (R463). -/
def execSkip63 (s : State) : Result := skipFixed 63 s

/-- `SKIP_64` is `Skip(64)` in both bound modes (R464). -/
def execSkip64 (s : State) : Result := skipFixed 64 s

end Sys2Proof.Machine
end

