-- ==== Sys2Proof/Machine/WriteWrappers.lean ====
section
/-! DEFINITION. The meanings of the fixed-width writes `WRITE_U1` to `WRITE_U64`: each is exactly
`Write(Wd(N), value, N)` (`45_write_wrappers_u1_u32.md` R300 to R332, `46_write_wrappers_u33_u64.md` R333
to R364). -/

namespace Sys2Proof.Machine

/-- `WRITE_U1` is `Write(8, value, 1)` (R301). -/
def execWriteU1 (value : Data) (s : State) : Result := writeField 8 value 1 s

/-- `WRITE_U2` is `Write(8, value, 2)` (R302). -/
def execWriteU2 (value : Data) (s : State) : Result := writeField 8 value 2 s

/-- `WRITE_U3` is `Write(8, value, 3)` (R303). -/
def execWriteU3 (value : Data) (s : State) : Result := writeField 8 value 3 s

/-- `WRITE_U4` is `Write(8, value, 4)` (R304). -/
def execWriteU4 (value : Data) (s : State) : Result := writeField 8 value 4 s

/-- `WRITE_U5` is `Write(8, value, 5)` (R305). -/
def execWriteU5 (value : Data) (s : State) : Result := writeField 8 value 5 s

/-- `WRITE_U6` is `Write(8, value, 6)` (R306). -/
def execWriteU6 (value : Data) (s : State) : Result := writeField 8 value 6 s

/-- `WRITE_U7` is `Write(8, value, 7)` (R307). -/
def execWriteU7 (value : Data) (s : State) : Result := writeField 8 value 7 s

/-- `WRITE_U8` is `Write(8, value, 8)` (R308). -/
def execWriteU8 (value : Data) (s : State) : Result := writeField 8 value 8 s

/-- `WRITE_U9` is `Write(16, value, 9)` (R309). -/
def execWriteU9 (value : Data) (s : State) : Result := writeField 16 value 9 s

/-- `WRITE_U10` is `Write(16, value, 10)` (R310). -/
def execWriteU10 (value : Data) (s : State) : Result := writeField 16 value 10 s

/-- `WRITE_U11` is `Write(16, value, 11)` (R311). -/
def execWriteU11 (value : Data) (s : State) : Result := writeField 16 value 11 s

/-- `WRITE_U12` is `Write(16, value, 12)` (R312). -/
def execWriteU12 (value : Data) (s : State) : Result := writeField 16 value 12 s

/-- `WRITE_U13` is `Write(16, value, 13)` (R313). -/
def execWriteU13 (value : Data) (s : State) : Result := writeField 16 value 13 s

/-- `WRITE_U14` is `Write(16, value, 14)` (R314). -/
def execWriteU14 (value : Data) (s : State) : Result := writeField 16 value 14 s

/-- `WRITE_U15` is `Write(16, value, 15)` (R315). -/
def execWriteU15 (value : Data) (s : State) : Result := writeField 16 value 15 s

/-- `WRITE_U16` is `Write(16, value, 16)` (R316). -/
def execWriteU16 (value : Data) (s : State) : Result := writeField 16 value 16 s

/-- `WRITE_U17` is `Write(32, value, 17)` (R317). -/
def execWriteU17 (value : Data) (s : State) : Result := writeField 32 value 17 s

/-- `WRITE_U18` is `Write(32, value, 18)` (R318). -/
def execWriteU18 (value : Data) (s : State) : Result := writeField 32 value 18 s

/-- `WRITE_U19` is `Write(32, value, 19)` (R319). -/
def execWriteU19 (value : Data) (s : State) : Result := writeField 32 value 19 s

/-- `WRITE_U20` is `Write(32, value, 20)` (R320). -/
def execWriteU20 (value : Data) (s : State) : Result := writeField 32 value 20 s

/-- `WRITE_U21` is `Write(32, value, 21)` (R321). -/
def execWriteU21 (value : Data) (s : State) : Result := writeField 32 value 21 s

/-- `WRITE_U22` is `Write(32, value, 22)` (R322). -/
def execWriteU22 (value : Data) (s : State) : Result := writeField 32 value 22 s

/-- `WRITE_U23` is `Write(32, value, 23)` (R323). -/
def execWriteU23 (value : Data) (s : State) : Result := writeField 32 value 23 s

/-- `WRITE_U24` is `Write(32, value, 24)` (R324). -/
def execWriteU24 (value : Data) (s : State) : Result := writeField 32 value 24 s

/-- `WRITE_U25` is `Write(32, value, 25)` (R325). -/
def execWriteU25 (value : Data) (s : State) : Result := writeField 32 value 25 s

/-- `WRITE_U26` is `Write(32, value, 26)` (R326). -/
def execWriteU26 (value : Data) (s : State) : Result := writeField 32 value 26 s

/-- `WRITE_U27` is `Write(32, value, 27)` (R327). -/
def execWriteU27 (value : Data) (s : State) : Result := writeField 32 value 27 s

/-- `WRITE_U28` is `Write(32, value, 28)` (R328). -/
def execWriteU28 (value : Data) (s : State) : Result := writeField 32 value 28 s

/-- `WRITE_U29` is `Write(32, value, 29)` (R329). -/
def execWriteU29 (value : Data) (s : State) : Result := writeField 32 value 29 s

/-- `WRITE_U30` is `Write(32, value, 30)` (R330). -/
def execWriteU30 (value : Data) (s : State) : Result := writeField 32 value 30 s

/-- `WRITE_U31` is `Write(32, value, 31)` (R331). -/
def execWriteU31 (value : Data) (s : State) : Result := writeField 32 value 31 s

/-- `WRITE_U32` is `Write(32, value, 32)` (R332). -/
def execWriteU32 (value : Data) (s : State) : Result := writeField 32 value 32 s

/-- `WRITE_U33` is `Write(64, value, 33)` (R333). -/
def execWriteU33 (value : Data) (s : State) : Result := writeField 64 value 33 s

/-- `WRITE_U34` is `Write(64, value, 34)` (R334). -/
def execWriteU34 (value : Data) (s : State) : Result := writeField 64 value 34 s

/-- `WRITE_U35` is `Write(64, value, 35)` (R335). -/
def execWriteU35 (value : Data) (s : State) : Result := writeField 64 value 35 s

/-- `WRITE_U36` is `Write(64, value, 36)` (R336). -/
def execWriteU36 (value : Data) (s : State) : Result := writeField 64 value 36 s

/-- `WRITE_U37` is `Write(64, value, 37)` (R337). -/
def execWriteU37 (value : Data) (s : State) : Result := writeField 64 value 37 s

/-- `WRITE_U38` is `Write(64, value, 38)` (R338). -/
def execWriteU38 (value : Data) (s : State) : Result := writeField 64 value 38 s

/-- `WRITE_U39` is `Write(64, value, 39)` (R339). -/
def execWriteU39 (value : Data) (s : State) : Result := writeField 64 value 39 s

/-- `WRITE_U40` is `Write(64, value, 40)` (R340). -/
def execWriteU40 (value : Data) (s : State) : Result := writeField 64 value 40 s

/-- `WRITE_U41` is `Write(64, value, 41)` (R341). -/
def execWriteU41 (value : Data) (s : State) : Result := writeField 64 value 41 s

/-- `WRITE_U42` is `Write(64, value, 42)` (R342). -/
def execWriteU42 (value : Data) (s : State) : Result := writeField 64 value 42 s

/-- `WRITE_U43` is `Write(64, value, 43)` (R343). -/
def execWriteU43 (value : Data) (s : State) : Result := writeField 64 value 43 s

/-- `WRITE_U44` is `Write(64, value, 44)` (R344). -/
def execWriteU44 (value : Data) (s : State) : Result := writeField 64 value 44 s

/-- `WRITE_U45` is `Write(64, value, 45)` (R345). -/
def execWriteU45 (value : Data) (s : State) : Result := writeField 64 value 45 s

/-- `WRITE_U46` is `Write(64, value, 46)` (R346). -/
def execWriteU46 (value : Data) (s : State) : Result := writeField 64 value 46 s

/-- `WRITE_U47` is `Write(64, value, 47)` (R347). -/
def execWriteU47 (value : Data) (s : State) : Result := writeField 64 value 47 s

/-- `WRITE_U48` is `Write(64, value, 48)` (R348). -/
def execWriteU48 (value : Data) (s : State) : Result := writeField 64 value 48 s

/-- `WRITE_U49` is `Write(64, value, 49)` (R349). -/
def execWriteU49 (value : Data) (s : State) : Result := writeField 64 value 49 s

/-- `WRITE_U50` is `Write(64, value, 50)` (R350). -/
def execWriteU50 (value : Data) (s : State) : Result := writeField 64 value 50 s

/-- `WRITE_U51` is `Write(64, value, 51)` (R351). -/
def execWriteU51 (value : Data) (s : State) : Result := writeField 64 value 51 s

/-- `WRITE_U52` is `Write(64, value, 52)` (R352). -/
def execWriteU52 (value : Data) (s : State) : Result := writeField 64 value 52 s

/-- `WRITE_U53` is `Write(64, value, 53)` (R353). -/
def execWriteU53 (value : Data) (s : State) : Result := writeField 64 value 53 s

/-- `WRITE_U54` is `Write(64, value, 54)` (R354). -/
def execWriteU54 (value : Data) (s : State) : Result := writeField 64 value 54 s

/-- `WRITE_U55` is `Write(64, value, 55)` (R355). -/
def execWriteU55 (value : Data) (s : State) : Result := writeField 64 value 55 s

/-- `WRITE_U56` is `Write(64, value, 56)` (R356). -/
def execWriteU56 (value : Data) (s : State) : Result := writeField 64 value 56 s

/-- `WRITE_U57` is `Write(64, value, 57)` (R357). -/
def execWriteU57 (value : Data) (s : State) : Result := writeField 64 value 57 s

/-- `WRITE_U58` is `Write(64, value, 58)` (R358). -/
def execWriteU58 (value : Data) (s : State) : Result := writeField 64 value 58 s

/-- `WRITE_U59` is `Write(64, value, 59)` (R359). -/
def execWriteU59 (value : Data) (s : State) : Result := writeField 64 value 59 s

/-- `WRITE_U60` is `Write(64, value, 60)` (R360). -/
def execWriteU60 (value : Data) (s : State) : Result := writeField 64 value 60 s

/-- `WRITE_U61` is `Write(64, value, 61)` (R361). -/
def execWriteU61 (value : Data) (s : State) : Result := writeField 64 value 61 s

/-- `WRITE_U62` is `Write(64, value, 62)` (R362). -/
def execWriteU62 (value : Data) (s : State) : Result := writeField 64 value 62 s

/-- `WRITE_U63` is `Write(64, value, 63)` (R363). -/
def execWriteU63 (value : Data) (s : State) : Result := writeField 64 value 63 s

/-- `WRITE_U64` is `Write(64, value, 64)` (R364). -/
def execWriteU64 (value : Data) (s : State) : Result := writeField 64 value 64 s

end Sys2Proof.Machine
end

