-- ==== Sys2Proof/Machine/Dispatch.lean ====
section
/-! DEFINITION. `exec`: one arm per command, each a call of that command's own meaning. -/

namespace Sys2Proof.Machine

def exec (i : Instr) (s : State) : Host.Outcome State Fault Refusal :=
  match i with
  | .readU1 => Sys2Proof.Machine.execReadU1 s
  | .readU2 => Sys2Proof.Machine.execReadU2 s
  | .readU3 => Sys2Proof.Machine.execReadU3 s
  | .readU4 => Sys2Proof.Machine.execReadU4 s
  | .readU5 => Sys2Proof.Machine.execReadU5 s
  | .readU6 => Sys2Proof.Machine.execReadU6 s
  | .readU7 => Sys2Proof.Machine.execReadU7 s
  | .readU8 => Sys2Proof.Machine.execReadU8 s
  | .readU9 => Sys2Proof.Machine.execReadU9 s
  | .readU10 => Sys2Proof.Machine.execReadU10 s
  | .readU11 => Sys2Proof.Machine.execReadU11 s
  | .readU12 => Sys2Proof.Machine.execReadU12 s
  | .readU13 => Sys2Proof.Machine.execReadU13 s
  | .readU14 => Sys2Proof.Machine.execReadU14 s
  | .readU15 => Sys2Proof.Machine.execReadU15 s
  | .readU16 => Sys2Proof.Machine.execReadU16 s
  | .readU17 => Sys2Proof.Machine.execReadU17 s
  | .readU18 => Sys2Proof.Machine.execReadU18 s
  | .readU19 => Sys2Proof.Machine.execReadU19 s
  | .readU20 => Sys2Proof.Machine.execReadU20 s
  | .readU21 => Sys2Proof.Machine.execReadU21 s
  | .readU22 => Sys2Proof.Machine.execReadU22 s
  | .readU23 => Sys2Proof.Machine.execReadU23 s
  | .readU24 => Sys2Proof.Machine.execReadU24 s
  | .readU25 => Sys2Proof.Machine.execReadU25 s
  | .readU26 => Sys2Proof.Machine.execReadU26 s
  | .readU27 => Sys2Proof.Machine.execReadU27 s
  | .readU28 => Sys2Proof.Machine.execReadU28 s
  | .readU29 => Sys2Proof.Machine.execReadU29 s
  | .readU30 => Sys2Proof.Machine.execReadU30 s
  | .readU31 => Sys2Proof.Machine.execReadU31 s
  | .readU32 => Sys2Proof.Machine.execReadU32 s
  | .readU33 => Sys2Proof.Machine.execReadU33 s
  | .readU34 => Sys2Proof.Machine.execReadU34 s
  | .readU35 => Sys2Proof.Machine.execReadU35 s
  | .readU36 => Sys2Proof.Machine.execReadU36 s
  | .readU37 => Sys2Proof.Machine.execReadU37 s
  | .readU38 => Sys2Proof.Machine.execReadU38 s
  | .readU39 => Sys2Proof.Machine.execReadU39 s
  | .readU40 => Sys2Proof.Machine.execReadU40 s
  | .readU41 => Sys2Proof.Machine.execReadU41 s
  | .readU42 => Sys2Proof.Machine.execReadU42 s
  | .readU43 => Sys2Proof.Machine.execReadU43 s
  | .readU44 => Sys2Proof.Machine.execReadU44 s
  | .readU45 => Sys2Proof.Machine.execReadU45 s
  | .readU46 => Sys2Proof.Machine.execReadU46 s
  | .readU47 => Sys2Proof.Machine.execReadU47 s
  | .readU48 => Sys2Proof.Machine.execReadU48 s
  | .readU49 => Sys2Proof.Machine.execReadU49 s
  | .readU50 => Sys2Proof.Machine.execReadU50 s
  | .readU51 => Sys2Proof.Machine.execReadU51 s
  | .readU52 => Sys2Proof.Machine.execReadU52 s
  | .readU53 => Sys2Proof.Machine.execReadU53 s
  | .readU54 => Sys2Proof.Machine.execReadU54 s
  | .readU55 => Sys2Proof.Machine.execReadU55 s
  | .readU56 => Sys2Proof.Machine.execReadU56 s
  | .readU57 => Sys2Proof.Machine.execReadU57 s
  | .readU58 => Sys2Proof.Machine.execReadU58 s
  | .readU59 => Sys2Proof.Machine.execReadU59 s
  | .readU60 => Sys2Proof.Machine.execReadU60 s
  | .readU61 => Sys2Proof.Machine.execReadU61 s
  | .readU62 => Sys2Proof.Machine.execReadU62 s
  | .readU63 => Sys2Proof.Machine.execReadU63 s
  | .readU64 => Sys2Proof.Machine.execReadU64 s
  | .writeU1 value => Sys2Proof.Machine.execWriteU1 value s
  | .writeU2 value => Sys2Proof.Machine.execWriteU2 value s
  | .writeU3 value => Sys2Proof.Machine.execWriteU3 value s
  | .writeU4 value => Sys2Proof.Machine.execWriteU4 value s
  | .writeU5 value => Sys2Proof.Machine.execWriteU5 value s
  | .writeU6 value => Sys2Proof.Machine.execWriteU6 value s
  | .writeU7 value => Sys2Proof.Machine.execWriteU7 value s
  | .writeU8 value => Sys2Proof.Machine.execWriteU8 value s
  | .writeU9 value => Sys2Proof.Machine.execWriteU9 value s
  | .writeU10 value => Sys2Proof.Machine.execWriteU10 value s
  | .writeU11 value => Sys2Proof.Machine.execWriteU11 value s
  | .writeU12 value => Sys2Proof.Machine.execWriteU12 value s
  | .writeU13 value => Sys2Proof.Machine.execWriteU13 value s
  | .writeU14 value => Sys2Proof.Machine.execWriteU14 value s
  | .writeU15 value => Sys2Proof.Machine.execWriteU15 value s
  | .writeU16 value => Sys2Proof.Machine.execWriteU16 value s
  | .writeU17 value => Sys2Proof.Machine.execWriteU17 value s
  | .writeU18 value => Sys2Proof.Machine.execWriteU18 value s
  | .writeU19 value => Sys2Proof.Machine.execWriteU19 value s
  | .writeU20 value => Sys2Proof.Machine.execWriteU20 value s
  | .writeU21 value => Sys2Proof.Machine.execWriteU21 value s
  | .writeU22 value => Sys2Proof.Machine.execWriteU22 value s
  | .writeU23 value => Sys2Proof.Machine.execWriteU23 value s
  | .writeU24 value => Sys2Proof.Machine.execWriteU24 value s
  | .writeU25 value => Sys2Proof.Machine.execWriteU25 value s
  | .writeU26 value => Sys2Proof.Machine.execWriteU26 value s
  | .writeU27 value => Sys2Proof.Machine.execWriteU27 value s
  | .writeU28 value => Sys2Proof.Machine.execWriteU28 value s
  | .writeU29 value => Sys2Proof.Machine.execWriteU29 value s
  | .writeU30 value => Sys2Proof.Machine.execWriteU30 value s
  | .writeU31 value => Sys2Proof.Machine.execWriteU31 value s
  | .writeU32 value => Sys2Proof.Machine.execWriteU32 value s
  | .writeU33 value => Sys2Proof.Machine.execWriteU33 value s
  | .writeU34 value => Sys2Proof.Machine.execWriteU34 value s
  | .writeU35 value => Sys2Proof.Machine.execWriteU35 value s
  | .writeU36 value => Sys2Proof.Machine.execWriteU36 value s
  | .writeU37 value => Sys2Proof.Machine.execWriteU37 value s
  | .writeU38 value => Sys2Proof.Machine.execWriteU38 value s
  | .writeU39 value => Sys2Proof.Machine.execWriteU39 value s
  | .writeU40 value => Sys2Proof.Machine.execWriteU40 value s
  | .writeU41 value => Sys2Proof.Machine.execWriteU41 value s
  | .writeU42 value => Sys2Proof.Machine.execWriteU42 value s
  | .writeU43 value => Sys2Proof.Machine.execWriteU43 value s
  | .writeU44 value => Sys2Proof.Machine.execWriteU44 value s
  | .writeU45 value => Sys2Proof.Machine.execWriteU45 value s
  | .writeU46 value => Sys2Proof.Machine.execWriteU46 value s
  | .writeU47 value => Sys2Proof.Machine.execWriteU47 value s
  | .writeU48 value => Sys2Proof.Machine.execWriteU48 value s
  | .writeU49 value => Sys2Proof.Machine.execWriteU49 value s
  | .writeU50 value => Sys2Proof.Machine.execWriteU50 value s
  | .writeU51 value => Sys2Proof.Machine.execWriteU51 value s
  | .writeU52 value => Sys2Proof.Machine.execWriteU52 value s
  | .writeU53 value => Sys2Proof.Machine.execWriteU53 value s
  | .writeU54 value => Sys2Proof.Machine.execWriteU54 value s
  | .writeU55 value => Sys2Proof.Machine.execWriteU55 value s
  | .writeU56 value => Sys2Proof.Machine.execWriteU56 value s
  | .writeU57 value => Sys2Proof.Machine.execWriteU57 value s
  | .writeU58 value => Sys2Proof.Machine.execWriteU58 value s
  | .writeU59 value => Sys2Proof.Machine.execWriteU59 value s
  | .writeU60 value => Sys2Proof.Machine.execWriteU60 value s
  | .writeU61 value => Sys2Proof.Machine.execWriteU61 value s
  | .writeU62 value => Sys2Proof.Machine.execWriteU62 value s
  | .writeU63 value => Sys2Proof.Machine.execWriteU63 value s
  | .writeU64 value => Sys2Proof.Machine.execWriteU64 value s
  | .skip1 => Sys2Proof.Machine.execSkip1 s
  | .skip2 => Sys2Proof.Machine.execSkip2 s
  | .skip3 => Sys2Proof.Machine.execSkip3 s
  | .skip4 => Sys2Proof.Machine.execSkip4 s
  | .skip5 => Sys2Proof.Machine.execSkip5 s
  | .skip6 => Sys2Proof.Machine.execSkip6 s
  | .skip7 => Sys2Proof.Machine.execSkip7 s
  | .skip8 => Sys2Proof.Machine.execSkip8 s
  | .skip9 => Sys2Proof.Machine.execSkip9 s
  | .skip10 => Sys2Proof.Machine.execSkip10 s
  | .skip11 => Sys2Proof.Machine.execSkip11 s
  | .skip12 => Sys2Proof.Machine.execSkip12 s
  | .skip13 => Sys2Proof.Machine.execSkip13 s
  | .skip14 => Sys2Proof.Machine.execSkip14 s
  | .skip15 => Sys2Proof.Machine.execSkip15 s
  | .skip16 => Sys2Proof.Machine.execSkip16 s
  | .skip17 => Sys2Proof.Machine.execSkip17 s
  | .skip18 => Sys2Proof.Machine.execSkip18 s
  | .skip19 => Sys2Proof.Machine.execSkip19 s
  | .skip20 => Sys2Proof.Machine.execSkip20 s
  | .skip21 => Sys2Proof.Machine.execSkip21 s
  | .skip22 => Sys2Proof.Machine.execSkip22 s
  | .skip23 => Sys2Proof.Machine.execSkip23 s
  | .skip24 => Sys2Proof.Machine.execSkip24 s
  | .skip25 => Sys2Proof.Machine.execSkip25 s
  | .skip26 => Sys2Proof.Machine.execSkip26 s
  | .skip27 => Sys2Proof.Machine.execSkip27 s
  | .skip28 => Sys2Proof.Machine.execSkip28 s
  | .skip29 => Sys2Proof.Machine.execSkip29 s
  | .skip30 => Sys2Proof.Machine.execSkip30 s
  | .skip31 => Sys2Proof.Machine.execSkip31 s
  | .skip32 => Sys2Proof.Machine.execSkip32 s
  | .skip33 => Sys2Proof.Machine.execSkip33 s
  | .skip34 => Sys2Proof.Machine.execSkip34 s
  | .skip35 => Sys2Proof.Machine.execSkip35 s
  | .skip36 => Sys2Proof.Machine.execSkip36 s
  | .skip37 => Sys2Proof.Machine.execSkip37 s
  | .skip38 => Sys2Proof.Machine.execSkip38 s
  | .skip39 => Sys2Proof.Machine.execSkip39 s
  | .skip40 => Sys2Proof.Machine.execSkip40 s
  | .skip41 => Sys2Proof.Machine.execSkip41 s
  | .skip42 => Sys2Proof.Machine.execSkip42 s
  | .skip43 => Sys2Proof.Machine.execSkip43 s
  | .skip44 => Sys2Proof.Machine.execSkip44 s
  | .skip45 => Sys2Proof.Machine.execSkip45 s
  | .skip46 => Sys2Proof.Machine.execSkip46 s
  | .skip47 => Sys2Proof.Machine.execSkip47 s
  | .skip48 => Sys2Proof.Machine.execSkip48 s
  | .skip49 => Sys2Proof.Machine.execSkip49 s
  | .skip50 => Sys2Proof.Machine.execSkip50 s
  | .skip51 => Sys2Proof.Machine.execSkip51 s
  | .skip52 => Sys2Proof.Machine.execSkip52 s
  | .skip53 => Sys2Proof.Machine.execSkip53 s
  | .skip54 => Sys2Proof.Machine.execSkip54 s
  | .skip55 => Sys2Proof.Machine.execSkip55 s
  | .skip56 => Sys2Proof.Machine.execSkip56 s
  | .skip57 => Sys2Proof.Machine.execSkip57 s
  | .skip58 => Sys2Proof.Machine.execSkip58 s
  | .skip59 => Sys2Proof.Machine.execSkip59 s
  | .skip60 => Sys2Proof.Machine.execSkip60 s
  | .skip61 => Sys2Proof.Machine.execSkip61 s
  | .skip62 => Sys2Proof.Machine.execSkip62 s
  | .skip63 => Sys2Proof.Machine.execSkip63 s
  | .skip64 => Sys2Proof.Machine.execSkip64 s
  | .newRead len off => Sys2Proof.Machine.execNewRead len off s
  | .newWrite len off => Sys2Proof.Machine.execNewWrite len off s
  | .getPos => Sys2Proof.Machine.execGetPos s
  | .getRemaining => Sys2Proof.Machine.execGetRemaining s
  | .advanceBits count => Sys2Proof.Machine.execAdvanceBits count s
  | .skipBits count => Sys2Proof.Machine.execSkipBits count s
  | .readUpToU8 bitCount => Sys2Proof.Machine.execReadUpToU8 bitCount s
  | .readUpToU16 bitCount => Sys2Proof.Machine.execReadUpToU16 bitCount s
  | .readUpToU32 bitCount => Sys2Proof.Machine.execReadUpToU32 bitCount s
  | .readUpToU64 bitCount => Sys2Proof.Machine.execReadUpToU64 bitCount s
  | .writeUpToU8 value bitCount => Sys2Proof.Machine.execWriteUpToU8 value bitCount s
  | .writeUpToU16 value bitCount => Sys2Proof.Machine.execWriteUpToU16 value bitCount s
  | .writeUpToU32 value bitCount => Sys2Proof.Machine.execWriteUpToU32 value bitCount s
  | .writeUpToU64 value bitCount => Sys2Proof.Machine.execWriteUpToU64 value bitCount s

end Sys2Proof.Machine
end

