-- ==== Sys2Proof/Machine/HostPort.lean ====
section
/-! DEFINITION. The command port and the other inputs of the outside world (`20_memory.md` R68,
`30_encoding.md` R90, R98, `70_reset_and_hazards.md` R540, R541, R546 to R548). -/

namespace Sys2Proof.Machine

/-- The forms that construct a cursor (R35): the only commands that do not use the active one. -/
def constructs : Form → Bool
  | .newRead _ _ => true
  | .newWrite _ _ => true
  | .read _ => false
  | .write _ _ => false
  | .skip _ => false
  | .getPos => false
  | .getRemaining => false
  | .advanceBits _ => false
  | .skipBits _ => false
  | .readUpTo _ _ => false
  | .writeUpTo _ _ _ => false

/-- One command on the command port: a reserved opcode is `ILLEGAL` whatever the mode (R96, R98); a
command that uses a cursor whose buffer the host shared has no meaning (R68, R547, U3); every other
command is executed. -/
def runCommand (c : Command) (s : State) : Result :=
  match decode s.cfg c with
  | .reserved _ => raiseStatus .illegal s
  | .instr i =>
    if s.shared && !constructs i.form then .refused .sharedBuffer
    else Sys2Proof.Machine.exec i s

/-- The buffer after a reset interrupted the write whose lanes are given, lane `j` of them at offset `b`:
each byte that was to be written is the old or the new one, by the `k`-th draw (R541, U5). -/
def tornLanes (k : Nat) (m : Memory) (b j : Nat) : List Lane → Memory
  | [] => m
  | l :: ls =>
    match l.wdata with
    | some v => tornLanes k (if Config.abortStores k j then m.store b v else m) (b + 1) (j + 1) ls
    | none => tornLanes k m (b + 1) (j + 1) ls

/-- Reset during a command (R541): no response, the engine in the reset state, and of the bytes the
command was to write each one old or new. -/
def abortCommand (c : Command) (s : State) : Result :=
  match runCommand c s with
  | .next t =>
    .next { (s.resetEngine).withMem (tornLanes s.aborts s.mem t.port.addr 0 t.port.lanes) with
      aborts := s.aborts + 1 }
  | .fault f => .fault f
  | .refused r => .refused r

/-- R547, R548: the active cursor's buffer is the host's no more to write, and, for a write cursor, no
more to read. -/
def breaksExclusion (s : State) (a : Nat) (writes : Bool) : Bool :=
  match s.mode with
  | .unbound => false
  | .read => writes && a < s.lenBytes
  | .write => a < s.lenBytes

/-- The host stores a byte in the buffer (R68, R548). -/
def hostWrite (a : Nat) (v : Byte) (s : State) : State :=
  { s with mem := s.mem.store a v, shared := s.shared || breaksExclusion s a true }

/-- The host reads a byte of the buffer (R68, R548). -/
def hostRead (a : Nat) (s : State) : State :=
  { s with hostData := some (s.mem.byteAt a), shared := s.shared || breaksExclusion s a false }

/-- What one input does. -/
def accept (e : HostInput) (s : State) : Result :=
  match e with
  | .command c => runCommand c s
  | .reset => .next s.resetEngine
  | .resetDuring c => abortCommand c s
  | .bufferWrite a v => .next (hostWrite a v s)
  | .bufferRead a => .next (hostRead a s)

/-- The state with its first input taken off (R546: one at a time). -/
def State.withInputs (s : State) (rest : List HostInput) : State := { s with inputs := rest }

/-- The host presents the command record next. Exclusive access is taken as unbroken. -/
def State.presenting (s : State) (c : Command) : State :=
  { s with inputs := .command c :: s.inputs, shared := false }

end Sys2Proof.Machine
end

