-- ==== Sys2Proof/Machine/Step.lean ====
section
/-! DEFINITION. One step of the machine: the next input of the host, whole (R20 "one step is one whole
command", R546). With no input the engine waits and keeps everything (R525, R552). -/

namespace Sys2Proof.Machine

/-- One step. -/
def step (s : State) : Host.Outcome State Fault Refusal :=
  match s.inputs with
  | [] => .next s
  | e :: rest => accept e (s.withInputs rest)

/-- The state in which the host's next input is the command whose word `CMDW` has the given first
`nbits` bits, the bits above them 0 (R90). The engine fetches nothing (R28): this is where it takes its
next command from. -/
def State.withFetchWord (s : State) (nbits w : Nat) : State :=
  s.presenting (Command.ofWord s.cfg (w % 2 ^ nbits))

end Sys2Proof.Machine
end

