-- ==== Sys2Proof/Safety.lean ====
section
/-! DEFINITION. The terms in which claims are stated: the bits of the buffer (R56), the acceptance matrix
and the status table written down as the spec prints them (R97, R98, R505), what a command may leave
changed, the invariant of the reachable states (R26, R52, R73), and the result of a run (R552). Nothing
here is used by the machine. -/

namespace Sys2Proof.Machine

/-- Absolute bit `p` of the buffer: bit `p mod 8` of `Mem[p div 8]` (R6, R56). -/
def bitAt (m : Memory) (p : Nat) : Bool := (m.byteAt (p / 8)).getLsbD (p % 8)

/-- Lane `j` of the memory port during the last command (R52). -/
def State.lane (s : State) (j : Nat) : Lane := s.port.lanes.getD j Lane.idle

/-! ### The status table -/

/-- R97: which mode accepts which command. -/
def accepted : Form → Mode → Bool
  | .newRead _ _, _ => true
  | .newWrite _ _, _ => true
  | .getPos, m => m != .unbound
  | .getRemaining, m => m != .unbound
  | .readUpTo _ _, m => m == .read
  | .read _, m => m == .read
  | .advanceBits _, m => m == .read
  | .writeUpTo _ _ _, m => m == .write
  | .write _ _, m => m == .write
  | .skipBits _, m => m == .write
  | .skip _, m => m != .unbound

/-- R98 check (3), R502 (c): the `bit_count` contract `1 <= bit_count <= W` of the primitives. -/
def contractKept : Form → Bool
  | .readUpTo w n => 1 ≤ n && n ≤ w
  | .writeUpTo w _ n => 1 ≤ n && n ≤ w
  | .read _ => true
  | .write _ _ => true
  | .skip _ => true
  | .newRead _ _ => true
  | .newWrite _ _ => true
  | .getPos => true
  | .getRemaining => true
  | .advanceBits _ => true
  | .skipBits _ => true

/-- R98 check (4), R501: the range check of a command. -/
def inRange (s : State) : Form → Bool
  | .newRead len off => off ≤ 8 * len
  | .newWrite len off => off ≤ 8 * len
  | .getPos => true
  | .getRemaining => true
  | .advanceBits c => c ≤ s.remaining
  | .skipBits c => c ≤ s.remaining
  | .skip n => n ≤ s.remaining
  | .read n => n ≤ s.remaining
  | .write n _ => n ≤ s.remaining
  | .readUpTo _ n => n ≤ s.remaining
  | .writeUpTo _ _ n => n ≤ s.remaining

/-- R505, in the order of checks of R98: the status that ends a defined command. -/
def expectedStatus (s : State) (f : Form) : Status :=
  if !accepted f s.mode then .illegal
  else if !contractKept f then .illegal
  else if !inRange s f then .outOfRange
  else .ok

/-- The number of bits a form moves the position by when it succeeds, where it moves it (R146). -/
def advanceOf : Form → Option Nat
  | .read n => some n
  | .write n _ => some n
  | .skip n => some n
  | .advanceBits c => some c
  | .skipBits c => some c
  | .readUpTo _ n => some n
  | .writeUpTo _ _ n => some n
  | .newRead _ _ => none
  | .newWrite _ _ => none
  | .getPos => none
  | .getRemaining => none

/-- The width of the field a form reads, where it reads one. -/
def readWidth : Form → Option Nat
  | .read n => some n
  | .readUpTo _ n => some n
  | .write _ _ => none
  | .skip _ => none
  | .newRead _ _ => none
  | .newWrite _ _ => none
  | .getPos => none
  | .getRemaining => none
  | .advanceBits _ => none
  | .skipBits _ => none
  | .writeUpTo _ _ _ => none

/-- The width and the value of the field a form writes, where it writes one. -/
def writeWidth : Form → Option (Nat × Data)
  | .write n v => some (n, v)
  | .writeUpTo _ v n => some (n, v)
  | .read _ => none
  | .readUpTo _ _ => none
  | .skip _ => none
  | .newRead _ _ => none
  | .newWrite _ _ => none
  | .getPos => none
  | .getRemaining => none
  | .advanceBits _ => none
  | .skipBits _ => none

/-! ### Frames -/

/-- Nothing but the ports' record of the last command differs: what "changes nothing" means (R503). -/
def SameButPorts (s t : State) : Prop :=
  t.cfg = s.cfg ∧ t.mode = s.mode ∧ t.byteIdx = s.byteIdx ∧ t.bitIdx = s.bitIdx ∧
    t.lenBytes = s.lenBytes ∧ t.mem = s.mem ∧ t.inputs = s.inputs ∧ t.hostData = s.hostData ∧
    t.shared = s.shared ∧ t.aborts = s.aborts

/-- Nothing but the position, the buffer and the ports' record differs. -/
def SameButPositionAndBuffer (s t : State) : Prop :=
  t.cfg = s.cfg ∧ t.mode = s.mode ∧ t.lenBytes = s.lenBytes ∧ t.inputs = s.inputs ∧
    t.hostData = s.hostData ∧ t.shared = s.shared ∧ t.aborts = s.aborts

/-- The command completes with the response, makes no memory access (no lane is active) and changes
nothing. -/
def Answers (i : Instr) (s : State) (r : Response) : Prop :=
  ∃ t, exec i s = .next t ∧ t.response = some r ∧ SameButPorts s t ∧ ∀ j, t.lane j = Lane.idle

/-- The command completes with `OK`, makes no memory access, moves the position forward by `n` bits and
changes nothing else: no byte of the buffer, no other register. -/
def Skips (i : Instr) (s : State) (n : Nat) : Prop :=
  ∃ t, exec i s = .next t ∧ t.response = some (.ok none) ∧
    t.byteIdx = (s.pos + n) / 8 ∧ t.bitIdx = BitVec.ofNat 3 ((s.pos + n) % 8) ∧
    t.mem = s.mem ∧ SameButPositionAndBuffer s t ∧ ∀ j, t.lane j = Lane.idle

/-- The command completes with `OK`, makes no memory access, writes the four registers of a cursor of the
given mode, length and start offset, and changes nothing else that is the engine's or the host's (the
model's own exclusivity mark aside, log entry 4). -/
def Constructs (i : Instr) (s : State) (m : Mode) (len off : Nat) : Prop :=
  ∃ t, exec i s = .next t ∧ t.response = some (.ok none) ∧
    t.mode = m ∧ t.lenBytes = len ∧ t.byteIdx = off / 8 ∧ t.bitIdx = BitVec.ofNat 3 (off % 8) ∧
    t.mem = s.mem ∧ t.cfg = s.cfg ∧ t.inputs = s.inputs ∧ t.hostData = s.hostData ∧
    t.aborts = s.aborts ∧ ∀ j, t.lane j = Lane.idle

/-- The bytes at the offsets that satisfy `touchedAt` aside, the buffer is the same, listed byte by
listed byte. -/
def SameBytesOutside (touchedAt : Nat → Prop) (m m' : Memory) : Prop :=
  ∀ a, ¬ touchedAt a → m'.listed a = m.listed a

/-- The byte offsets a field of `n` bits at the position of `s` touches (R53). -/
def State.touches (s : State) (n a : Nat) : Prop :=
  s.byteIdx ≤ a ∧ a < s.byteIdx + touched s.bitIdx.toNat n

/-! ### The invariant -/

/-- R52, R54, R73: the port has nine lanes; an active lane is inside the buffer; no lane writes in READ;
no lane is active in UNBOUND. -/
def State.PortOk (s : State) : Prop :=
  s.port.lanes.length = 9 ∧
    (∀ j, s.lane j ≠ Lane.idle → s.port.addr + j < s.lenBytes) ∧
    (s.mode = .read → ∀ j, (s.lane j).wdata = none) ∧
    (s.mode = .unbound → ∀ j, s.lane j = Lane.idle)

/-- The invariant of the reachable states: the position is within the buffer (R26), the length fits its
register (R24), the parameter is legal (R4), the buffer is in canonical form, the memory port keeps its
rules (R52, R73), and without a cursor there is no cursor to share. -/
def State.Inv (s : State) : Prop :=
  s.cfg.Legal ∧ s.pos ≤ s.lenBits ∧ s.lenBytes < 2 ^ s.cfg.aw ∧ s.mem.wf = true ∧ s.PortOk ∧
    (s.mode = .unbound → s.shared = false)

/-! ### Runs -/

/-- The responses of the next `k` inputs (R552 "the list of responses"), one for each command that is
answered before the run stops. -/
def responsesOf : Nat → State → List Response
  | 0, _ => []
  | k + 1, s =>
    match step s, s.inputs with
    | .next t, .command _ :: _ => t.response.toList ++ responsesOf k t
    | .next t, _ => responsesOf k t
    | .fault _, _ => []
    | .refused _, _ => []

end Sys2Proof.Machine
end

