-- ==== Sys2Proof/Certificates/Slice0/Obligations.lean ====
section
/-! DEFINITION. The statements for the provers, from the numbered rules of the spec. Statements that name
commands by their form cover every constructor of `Instr` with that form: `.read n` is `READ_U1` to
`READ_U64`, `.write n v` is `WRITE_U1` to `WRITE_U64`, `.skip n` is `SKIP_1` to `SKIP_64`, `.readUpTo w n`
is `READ_UP_TO_U8/16/32/64`, `.writeUpTo w v n` is `WRITE_UP_TO_U8/16/32/64`. -/

open Sys2Proof Sys2Proof.Machine

/-! ### Encoding -/

/-- Decode and encode agree: the record the encoder writes for a well-formed command decodes to that
command, for all 206 commands, every operand and every legal or other `AW` (R90, R94, R95). -/
def Obligations.DecodeEncodeRoundTrip : Prop :=
  ∀ (cfg : Config) (i : Instr), i.wellFormed cfg = true → decode cfg (encode i) = .instr i

/-- The same through the single word `CMDW` (R90), which has `72 + PW + AW` bits. -/
def Obligations.PackedWordRoundTrip : Prop :=
  ∀ (cfg : Config) (i : Instr), i.wellFormed cfg = true →
    decode cfg (Command.ofWord cfg (encodeWord cfg i)) = .instr i ∧
      encodeWord cfg i < 2 ^ (72 + cfg.pw + cfg.aw)

/-- The opcode map (R95): each opcode decodes to the command of its row, with the operands the row uses
(R94: the whole of `ARG`, of `LEN`, of `VAL`), and every other opcode is reserved. -/
def Obligations.OpcodeMap : Prop :=
  ∀ (cfg : Config) (c : Command),
    let arg := c.arg % 2 ^ cfg.pw
    let len := c.len % 2 ^ cfg.aw
    (c.op.toNat < 0x40 →
      ∃ i, decode cfg c = .instr i ∧ i.form = .read (c.op.toNat % 64 + 1)) ∧
    (0x40 ≤ c.op.toNat ∧ c.op.toNat < 0x80 →
      ∃ i, decode cfg c = .instr i ∧ i.form = .write (c.op.toNat % 64 + 1) c.val) ∧
    (0x80 ≤ c.op.toNat ∧ c.op.toNat < 0xC0 →
      ∃ i, decode cfg c = .instr i ∧ i.form = .skip (c.op.toNat % 64 + 1)) ∧
    (c.op = 0xC0 → decode cfg c = .instr (.newRead len arg)) ∧
    (c.op = 0xC1 → decode cfg c = .instr (.newWrite len arg)) ∧
    (c.op = 0xC2 → decode cfg c = .instr .getPos) ∧
    (c.op = 0xC3 → decode cfg c = .instr .getRemaining) ∧
    (c.op = 0xC4 → decode cfg c = .instr (.advanceBits arg)) ∧
    (c.op = 0xC5 → decode cfg c = .instr (.skipBits arg)) ∧
    (∀ ww : Nat, ww < 4 → c.op.toNat = 0xC8 + ww →
      ∃ i, decode cfg c = .instr i ∧ i.form = .readUpTo (8 <<< ww) arg) ∧
    (∀ ww : Nat, ww < 4 → c.op.toNat = 0xCC + ww →
      ∃ i, decode cfg c = .instr i ∧ i.form = .writeUpTo (8 <<< ww) c.val arg) ∧
    (c.op = 0xC6 ∨ c.op = 0xC7 ∨ 0xD0 ≤ c.op.toNat → decode cfg c = .reserved c.op)

/-- "A field a command does not use is ignored: its bits may be anything and have no effect" (R90). -/
def Obligations.UnusedFieldsIgnored : Prop :=
  ∀ (cfg : Config) (c c' : Command) (i : Instr), decode cfg c = .instr i → c'.op = c.op →
    (i.form.arg ≠ none → c'.arg = c.arg) → (i.form.len ≠ none → c'.len = c.len) →
    (i.form.val ≠ none → c'.val = c.val) → decode cfg c' = .instr i

/-- What the decoder reads is what the record says: the command's opcode is `OP`, each operand it has is
the whole of its bus, and the command is well formed (R90, R94). -/
def Obligations.DecodedOperandsAreTheBuses : Prop :=
  ∀ (cfg : Config) (c : Command) (i : Instr), decode cfg c = .instr i →
    i.opcode = c.op ∧ i.wellFormed cfg = true ∧
      (∀ a, i.form.arg = some a → a = c.arg % 2 ^ cfg.pw) ∧
      (∀ l, i.form.len = some l → l = c.len % 2 ^ cfg.aw) ∧
      (∀ v, i.form.val = some v → v = c.val)

/-- Words printed in the spec's vectors (`95_test_vectors.md` S7, P2, P3, P5, at `AW = 32`) decode to the
commands printed beside them. -/
def Obligations.SpecWordsDecode : Prop :=
  decodeTableWord 139 0x000000000000000000000001800000000C1 = some (.newWrite 3 0) ∧
  decodeTableWord 139 0x000000000000000B0000000000000000044 = some (.writeU5 0x16) ∧
  decodeTableWord 139 0x0000000000000000000000000000000000C = some .readU13 ∧
  decodeTableWord 139 0x00000000000000000000000000000000082 = some .skip3 ∧
  decodeTableWord 139 0x000000000000000000000000000000014CA = some (.readUpToU32 20) ∧
  decodeTableWord 139 0x000000000000000000000000000000004C4 = some (.advanceBits 4) ∧
  decodeTableWord 139 0x000000000007FFFF80000000000000014CE = some (.writeUpToU32 0xFFFFF 20) ∧
  decodeTableWord 139 0x00000000000000000000000300000000BC0 = some (.newRead 6 11) ∧
  decodeTableWord 139 0x000000000000000000000000000000000C3 = some .getRemaining ∧
  decodeTableWord 139 0x000000000000000000000000000000000C6 = none

/-! ### Construction and queries -/

/-- `NEW_READ` and `NEW_WRITE` (R130, R131), in every mode: with the start offset inside the buffer, both
ends included, they complete with `OK`, write all four registers, access no byte and change nothing else;
beyond it they answer `OUT_OF_RANGE` and change nothing. -/
def Obligations.ConstructionBindsCursor : Prop :=
  ∀ (len off : Nat) (s : State),
    ((Instr.newRead len off).opcode = 0xC0 ∧ (Instr.newWrite len off).opcode = 0xC1) ∧
    (off ≤ 8 * len → Constructs (.newRead len off) s .read len off ∧
      Constructs (.newWrite len off) s .write len off) ∧
    (8 * len < off → Answers (.newRead len off) s .outOfRange ∧
      Answers (.newWrite len off) s .outOfRange)

/-- `GET_POS` and `GET_REMAINING` (R132, R133): in a bound mode they complete with the value zero-extended
on `DATA`, no access, state unchanged; `ILLEGAL` in UNBOUND. -/
def Obligations.QueriesAnswer : Prop :=
  (Instr.getPos.opcode = 0xC2 ∧ Instr.getRemaining.opcode = 0xC3) ∧ ∀ s : State,
    (s.mode ≠ .unbound →
      Answers .getPos s (.ok (some (BitVec.ofNat 64 (8 * s.byteIdx + s.bitIdx.toNat)))) ∧
      Answers .getRemaining s (.ok (some (BitVec.ofNat 64
        (8 * s.lenBytes - (8 * s.byteIdx + s.bitIdx.toNat)))))) ∧
    (s.mode = .unbound → Answers .getPos s .illegal ∧ Answers .getRemaining s .illegal)

/-- R134: in every bound state the two queries' values add up to `LEN_BITS`; they are the position and
the remaining bits themselves, with nothing lost in the 64 bits of `DATA`. -/
def Obligations.QueriesAddUp : Prop :=
  ∀ s : State, s.Inv → s.mode ≠ .unbound →
    ∃ (t u : State) (p r : Data), exec .getPos s = .next t ∧ t.response = some (.ok (some p)) ∧
      exec .getRemaining s = .next u ∧ u.response = some (.ok (some r)) ∧
      p.toNat = s.pos ∧ p.toNat + r.toNat = s.lenBits

/-! ### Position and skips -/

/-- `ADVANCE_BITS` and `SKIP_BITS` (R142, R143, R144), for every count: in its mode and in range it
completes, the position moves forward by the count and nothing else changes, no lane being active; out of
range `OUT_OF_RANGE`, in another mode `ILLEGAL`, and nothing changes. -/
def Obligations.SkipPrimitives : Prop :=
  ∀ (c : Nat) (s : State),
    ((Instr.advanceBits c).opcode = 0xC4 ∧ (Instr.skipBits c).opcode = 0xC5) ∧
    (c ≤ s.lenBits - s.pos →
      (s.mode = .read → Skips (.advanceBits c) s c) ∧
      (s.mode = .write → Skips (.skipBits c) s c)) ∧
    (s.lenBits - s.pos < c →
      (s.mode = .read → Answers (.advanceBits c) s .outOfRange) ∧
      (s.mode = .write → Answers (.skipBits c) s .outOfRange)) ∧
    (s.mode ≠ .read → Answers (.advanceBits c) s .illegal) ∧
    (s.mode ≠ .write → Answers (.skipBits c) s .illegal)

/-- `SKIP_1` to `SKIP_64` (R400): opcode `0x80 + N - 1`; exactly `ADVANCE_BITS N` in READ and
`SKIP_BITS N` in WRITE, `ILLEGAL` in UNBOUND. In both bound modes, in range, it completes and the position
moves forward by N; out of range it answers `OUT_OF_RANGE` and nothing changes. -/
def Obligations.SkipWrappersForward : Prop :=
  ∀ (i : Instr) (n : Nat), i.form = .skip n →
    (1 ≤ n ∧ n ≤ 64 ∧ i.opcode.toNat = 0x80 + n - 1) ∧
    ∀ s : State,
      (s.mode = .read → exec i s = exec (.advanceBits n) s) ∧
      (s.mode = .write → exec i s = exec (.skipBits n) s) ∧
      (s.mode = .unbound → Answers i s .illegal) ∧
      (s.mode ≠ .unbound → n ≤ s.lenBits - s.pos → Skips i s n) ∧
      (s.mode ≠ .unbound → s.lenBits - s.pos < n → Answers i s .outOfRange)

/-- The laws of the position (R146 (a), (b), (d)): a command that moves the position by `n` moves it by
exactly `n` when it succeeds, with the carry of the two-register form, and not at all when it fails; a
query never moves it. -/
def Obligations.PositionAdvancesExactly : Prop :=
  ∀ (i : Instr) (s t : State) (r : Response), exec i s = .next t → t.response = some r →
    (r.status = .ok → ∀ n, advanceOf i.form = some n →
      t.pos = s.pos + n ∧ t.bitIdx.toNat = (s.bitIdx.toNat + n) % 8 ∧
        t.byteIdx = s.byteIdx + (s.bitIdx.toNat + n) / 8) ∧
    (r.status ≠ .ok → t.pos = s.pos) ∧
    (constructs i.form = false → s.pos ≤ t.pos)

/-- R145: in READ, after `SKIP_N` and after `READ_UN` from the same state, whether they succeed or fail,
every following command does exactly the same: same response, same accesses, same final state. -/
def Obligations.SkipIsReadAndDiscard : Prop :=
  ∀ (isk ird next : Instr) (n : Nat) (s t u : State), isk.form = .skip n → ird.form = .read n →
    s.mode = .read → exec isk s = .next t → exec ird s = .next u → exec next t = exec next u

/-! ### Reads -/

/-- `READ_U1` to `READ_U64` (R200): opcode `N - 1`, and exactly the primitive of the width table with
`bit_count = N`, in every state. -/
def Obligations.ReadWrappersForward : Prop :=
  ∀ (i : Instr) (n : Nat), i.form = .read n →
    (1 ≤ n ∧ n ≤ 64 ∧ i.opcode.toNat = n - 1) ∧
    ∀ s : State,
      (n ≤ 8 → exec i s = exec (.readUpToU8 n) s) ∧
      (9 ≤ n → n ≤ 16 → exec i s = exec (.readUpToU16 n) s) ∧
      (17 ≤ n → n ≤ 32 → exec i s = exec (.readUpToU32 n) s) ∧
      (33 ≤ n → exec i s = exec (.readUpToU64 n) s)

/-- Every read command, wrapper or primitive, in READ, with its contract kept and the field in range,
completes: `DATA` bit `b` is absolute bit `POS + b` of the buffer for `b < n` and 0 above (R155), the
position advances by `n`, the buffer and everything else stay. -/
def Obligations.ReadReturnsTheField : Prop :=
  ∀ (i : Instr) (n : Nat) (s : State), readWidth i.form = some n → s.mode = .read →
    contractKept i.form = true → n ≤ s.lenBits - s.pos →
    ∃ (t : State) (d : Data), exec i s = .next t ∧ t.response = some (.ok (some d)) ∧
      (∀ b, d.getLsbD b = (decide (b < n) && bitAt s.mem (s.pos + b))) ∧
      t.pos = s.pos + n ∧ t.mem = s.mem ∧ SameButPositionAndBuffer s t

/-- What a read does not do (R156): in every outcome it writes no byte; on success it reads each touched
byte, once, and no other; on a failure it reads nothing, returns no data and leaves the position. The clause on
`ADDR` is R52's for a read that succeeds; for a read that fails, and so makes no access, the spec gives
`ADDR` no value and the clause is the model's choice (DESIGN CHOICE, log entry 7). -/
def Obligations.ReadAccessesTouchedBytesOnly : Prop :=
  ∀ (i : Instr) (n : Nat) (s t : State) (r : Response), readWidth i.form = some n →
    exec i s = .next t → t.response = some r →
    t.mem = s.mem ∧ (∀ j, (t.lane j).wdata = none) ∧ t.port.addr = s.byteIdx ∧
      (r.status = .ok → ∀ j, (t.lane j).rdata =
        if j < touched s.bitIdx.toNat n then some (s.mem.byteAt (s.byteIdx + j)) else none) ∧
      (r.status ≠ .ok → r.data = none ∧ t.byteIdx = s.byteIdx ∧ t.bitIdx = s.bitIdx ∧
        ∀ j, t.lane j = Lane.idle)

/-- "Its result depends on no byte other than the `k` touched ones" (R156): over two buffers that agree
on the touched bytes, a read command gives the same response, accesses and registers. -/
def Obligations.ReadIgnoresOtherBytes : Prop :=
  ∀ (i : Instr) (n : Nat) (s : State) (m : Memory), readWidth i.form = some n →
    (∀ a, s.touches n a → m.byteAt a = s.mem.byteAt a) →
    ∀ t, exec i s = .next t → exec i (s.withMem m) = .next (t.withMem m)

/-- R157: two read primitives with the same `bit_count`, legal for both, do the same thing. -/
def Obligations.ReadWidthHasNoOtherEffect : Prop :=
  ∀ (i j : Instr) (w1 w2 n : Nat) (s : State), i.form = .readUpTo w1 n → j.form = .readUpTo w2 n →
    n ≤ w1 → n ≤ w2 → exec i s = exec j s

/-! ### Writes -/

/-- `WRITE_U1` to `WRITE_U64` (R300): opcode `0x40 + N - 1`, and exactly the primitive of the width table
with `bit_count = N`, in every state. -/
def Obligations.WriteWrappersForward : Prop :=
  ∀ (i : Instr) (n : Nat) (v : Data), i.form = .write n v →
    (1 ≤ n ∧ n ≤ 64 ∧ i.opcode.toNat = 0x40 + n - 1) ∧
    ∀ s : State,
      (n ≤ 8 → exec i s = exec (.writeUpToU8 v n) s) ∧
      (9 ≤ n → n ≤ 16 → exec i s = exec (.writeUpToU16 v n) s) ∧
      (17 ≤ n → n ≤ 32 → exec i s = exec (.writeUpToU32 v n) s) ∧
      (33 ≤ n → exec i s = exec (.writeUpToU64 v n) s)

/-- Every write command, wrapper or primitive, in WRITE, with its contract kept and the field in range,
completes: absolute bit `p` of the buffer becomes bit `p - POS` of the value inside the field and keeps
its value outside it (R175), no byte but the touched ones is stored to, the position advances by `n`,
and everything else stays. -/
def Obligations.WriteInsertsTheField : Prop :=
  ∀ (i : Instr) (n : Nat) (v : Data) (s : State), writeWidth i.form = some (n, v) →
    s.mode = .write → contractKept i.form = true → n ≤ s.lenBits - s.pos →
    ∃ t : State, exec i s = .next t ∧ t.response = some (.ok none) ∧
      (∀ p, bitAt t.mem p =
        if s.pos ≤ p ∧ p < s.pos + n then v.getLsbD (p - s.pos) else bitAt s.mem p) ∧
      SameBytesOutside (s.touches n) s.mem t.mem ∧
      t.pos = s.pos + n ∧ SameButPositionAndBuffer s t

/-- The lanes of a successful write (R176 (a) to (d), R60): every touched byte is stored, once, and no
other; a touched byte is read exactly when the field covers it only in part. -/
def Obligations.WriteLanesByCoverage : Prop :=
  ∀ (i : Instr) (n : Nat) (v : Data) (s t : State), writeWidth i.form = some (n, v) →
    exec i s = .next t → t.response = some (.ok none) →
    t.port.addr = s.byteIdx ∧ t.port.lanes.length = 9 ∧
    ∀ j,
      (j < touched s.bitIdx.toNat n →
        (t.lane j).wdata = some (t.mem.byteAt (s.byteIdx + j)) ∧
        (t.lane j).rdata =
          if s.bitIdx.toNat ≤ 8 * j ∧ 8 * j + 8 ≤ s.bitIdx.toNat + n then none
          else some (s.mem.byteAt (s.byteIdx + j))) ∧
      (touched s.bitIdx.toNat n ≤ j → t.lane j = Lane.idle)

/-- R177: bits of the value at and above `n` never matter, and the primitive width only bounds
`bit_count`. -/
def Obligations.WriteUsesLowBitsOnly : Prop :=
  (∀ (i j : Instr) (n : Nat) (v v' : Data) (s : State),
    i.form = .write n v → j.form = .write n v' → (∀ b, b < n → v.getLsbD b = v'.getLsbD b) →
    exec i s = exec j s) ∧
  (∀ (i j : Instr) (w1 w2 n : Nat) (v v' : Data) (s : State),
    i.form = .writeUpTo w1 v n → j.form = .writeUpTo w2 v' n → n ≤ w1 → n ≤ w2 →
    (∀ b, b < n → v.getLsbD b = v'.getLsbD b) → exec i s = exec j s)

/-- R178, the round trip: from every state, `new_write len, s; write_uN V; new_read len, s; read_uN`
returns `V & mask(N)`, for every N, every value and every start offset at which the field fits. -/
def Obligations.WriteReadRoundTrip : Prop :=
  ∀ (iw ir : Instr) (n len off : Nat) (v : Data) (s : State),
    iw.form = .write n v → ir.form = .read n → off + n ≤ 8 * len →
    ∃ (t1 t2 t3 t4 : State) (d : Data), exec (.newWrite len off) s = .next t1 ∧
      exec iw t1 = .next t2 ∧ exec (.newRead len off) t2 = .next t3 ∧ exec ir t3 = .next t4 ∧
      t4.response = some (.ok (some d)) ∧ d.toNat = v.toNat % 2 ^ n

/-- R57: with `BIT_IDX = 0`, a field of `8m` bits is `m` bytes, least significant byte at the lowest
offset, written and read alike. -/
def Obligations.AlignedFieldsAreLittleEndian : Prop :=
  ∀ (i : Instr) (m : Nat) (v d : Data) (s t : State), s.bitIdx = 0 → exec i s = .next t →
    (writeWidth i.form = some (8 * m, v) → t.response = some (.ok none) →
      ∀ k, k < m → t.mem.byteAt (s.byteIdx + k) = v.extractLsb' (8 * k) 8) ∧
    (readWidth i.form = some (8 * m) → t.response = some (.ok (some d)) →
      ∀ k, k < m → d.extractLsb' (8 * k) 8 = s.mem.byteAt (s.byteIdx + k))

/-- The lane mask (R75 (a) to (d)). -/
def Obligations.LaneMaskProperties : Prop :=
  ∀ o n j : Nat, o < 8 → 1 ≤ n → n ≤ 64 → j ≤ 8 →
    let k := touched o n
    (laneMask o n j ≠ 0 ↔ j < k) ∧
    (0 < j → j + 1 < k → laneMask o n j = 0xFF) ∧
    (1 < k → laneMask o n 0 = BitVec.ofNat 8 (0xFF <<< o)) ∧
    (k = 1 → laneMask o n 0 = BitVec.ofNat 8 (mask n <<< o)) ∧
    (1 < k → laneMask o n (k - 1) = BitVec.ofNat 8 (mask ((o + n - 1) % 8 + 1)))

/-- The number of touched bytes (R53, R54): at least one; at most `W/8 + 1` for a primitive of width `W`,
reached exactly when `o + n > W`; and all of them inside the buffer once the range check has passed. -/
def Obligations.TouchedBytes : Prop :=
  (∀ o n w : Nat, o < 8 → 1 ≤ n → n ≤ w → w = 8 ∨ w = 16 ∨ w = 32 ∨ w = 64 →
    1 ≤ touched o n ∧ touched o n ≤ w / 8 + 1 ∧ (touched o n = w / 8 + 1 ↔ w < o + n)) ∧
  (∀ (s : State) (n a : Nat), 1 ≤ n → n ≤ s.lenBits - s.pos → s.touches n a → a < s.lenBytes)

/-! ### Statuses and errors -/

/-- R98 and R505: a command on the command port ends with the status of the first check that fails, in
the order reserved opcode, mode, `bit_count` contract, range, and with `OK` where none does; `ILLEGAL` has
priority over `OUT_OF_RANGE`. For every record of the port and every state in which the host has kept
the buffer exclusive. -/
def Obligations.StatusIsFirstFailedCheck : Prop :=
  ∀ (c : Command) (s : State), s.shared = false →
    ∃ (t : State) (r : Response), runCommand c s = .next t ∧ t.response = some r ∧
      r.status = match decode s.cfg c with
        | .reserved _ => .illegal
        | .instr i => expectedStatus s i.form

/-- R97: "A defined command presented in a mode that does not accept it ends with `STATUS = ILLEGAL` and
changes nothing", for the whole matrix. -/
def Obligations.WrongModeIsIllegal : Prop :=
  ∀ (i : Instr) (s : State), accepted i.form s.mode = false → Answers i s .illegal

/-- R503, R504: after a status other than OK the four registers and every byte of the buffer are what they
were, no lane was read or written, and there is no data. -/
def Obligations.FailedCommandChangesNothing : Prop :=
  ∀ (i : Instr) (s t : State) (r : Response), exec i s = .next t → t.response = some r →
    r.status ≠ .ok → SameButPorts s t ∧ (∀ j, t.lane j = Lane.idle) ∧ r.data = none

/-- R96: a reserved opcode, in every mode and whatever the other fields, ends with `ILLEGAL`, changes no
register and makes no memory access. -/
def Obligations.ReservedOpcodesAreIllegal : Prop :=
  ∀ (s : State) (c : Command) (rest : List HostInput),
    c.op = 0xC6 ∨ c.op = 0xC7 ∨ 0xD0 ≤ c.op.toNat → s.inputs = .command c :: rest →
    ∃ t, step s = .next t ∧ t.response = some .illegal ∧ t.inputs = rest ∧
      SameButPorts (s.withInputs rest) t ∧ ∀ j, t.lane j = Lane.idle

/-- The codes of `STATUS` and `MODE` (R91, R23): 0, 1 and 2, and never 3. -/
def Obligations.StatusAndModeCodes : Prop :=
  Status.ok.code = 0 ∧ Status.outOfRange.code = 1 ∧ Status.illegal.code = 2 ∧
  Mode.unbound.code = 0 ∧ Mode.read.code = 1 ∧ Mode.write.code = 2 ∧
  (∀ x : Status, x.code ≠ 3) ∧ (∀ m : Mode, m.code ≠ 3)

/-! ### Whole-machine rules -/

/-- R25 and R23: no command but `NEW_READ` and `NEW_WRITE` writes `LEN_BYTES` or `MODE`. -/
def Obligations.OnlyConstructionWritesModeAndLength : Prop :=
  ∀ (i : Instr) (s t : State), exec i s = .next t → constructs i.form = false →
    t.lenBytes = s.lenBytes ∧ t.mode = s.mode

/-- R73: outside WRITE no command stores to the buffer or asserts a write-enable, and in UNBOUND none
makes any access. -/
def Obligations.OnlyWriteModeWrites : Prop :=
  ∀ (i : Instr) (s t : State), exec i s = .next t →
    (s.mode ≠ .write → t.mem = s.mem ∧ ∀ j, (t.lane j).wdata = none) ∧
    (s.mode = .unbound → ∀ j, t.lane j = Lane.idle)

/-- A step runs the decoded command: with a command at the head of the host's inputs that decodes to `i`,
and the buffer exclusive or `i` a construction, the step is `exec i` with that input taken off. The same
for the record of a word (`State.withFetchWord`). -/
def Obligations.StepRunsDecodedCommand : Prop :=
  (∀ (s : State) (c : Command) (rest : List HostInput) (i : Instr),
    s.inputs = .command c :: rest → decode s.cfg c = .instr i →
    s.shared = false ∨ constructs i.form = true →
    step s = exec i { s with inputs := rest }) ∧
  (∀ (s : State) (nbits w : Nat) (i : Instr),
    decode s.cfg (Command.ofWord s.cfg (w % 2 ^ nbits)) = .instr i →
    step (s.withFetchWord nbits w) = exec i { s with shared := false })

/-- R525: with no command presented the engine waits, and keeps everything. -/
def Obligations.EngineWaitsForACommand : Prop :=
  ∀ s : State, s.inputs = [] → step s = .next s

/-- R553: every command, on any state, produces its response, in the one step that takes it. -/
def Obligations.EveryCommandIsAnswered : Prop :=
  ∀ (s : State) (c : Command) (rest : List HostInput), s.inputs = .command c :: rest →
    s.shared = false →
    ∃ (t : State) (r : Response), step s = .next t ∧ t.inputs = rest ∧ t.response = some r

/-- R552: a run of any list of commands, from any state with an exclusive buffer, gives one response for
each of them. -/
def Obligations.RunsCannotHang : Prop :=
  ∀ (cs : List Command) (s : State), s.inputs = cs.map .command → s.shared = false →
    (responsesOf cs.length s).length = cs.length

/-- R52, R54: no step faults: the memory port never addresses a byte outside the buffer. The one way a step
has no meaning is the use of a cursor whose buffer the host shared (log entry 4). -/
def Obligations.StepsNeverFault : Prop :=
  ∀ s : State, (∀ f, step s ≠ .fault f) ∧ (∀ r, step s = .refused r → r = .sharedBuffer ∧ s.shared = true)

/-- R33, R540: reset between commands: the registers at their reset values, the ports idle, the buffer and
the host's side untouched. Afterwards every command but a construction is `ILLEGAL`. -/
def Obligations.ResetUnbindsTheEngine : Prop :=
  ∀ (s : State) (rest : List HostInput), s.inputs = .reset :: rest →
    ∃ t, step s = .next t ∧ t.mode = .unbound ∧ t.byteIdx = 0 ∧ t.bitIdx = 0 ∧ t.lenBytes = 0 ∧
      t.mem = s.mem ∧ t.cfg = s.cfg ∧ t.inputs = rest ∧ t.hostData = s.hostData ∧
      t.aborts = s.aborts ∧ (∀ j, t.lane j = Lane.idle) ∧
      ∀ i : Instr, constructs i.form = false →
        ∃ u, exec i t = .next u ∧ u.response = some .illegal ∧ SameButPorts t u

/-- R541: reset during a command: no response, the engine in the reset state, each byte of the buffer
either its old one or the one the command would have left, whatever the draws; where the command would
have left a byte alone it keeps its value. -/
def Obligations.ResetDuringACommand : Prop :=
  ∀ (s : State) (c : Command) (rest : List HostInput), s.inputs = .resetDuring c :: rest →
    s.shared = false →
    ∃ t u, step s = .next t ∧ step { s with inputs := .command c :: rest } = .next u ∧
      t.mode = .unbound ∧ t.byteIdx = 0 ∧ t.bitIdx = 0 ∧ t.lenBytes = 0 ∧ t.response = none ∧
      t.cfg = s.cfg ∧ t.inputs = rest ∧
      ∀ a, t.mem.listed a = s.mem.listed a ∨ t.mem.listed a = u.mem.listed a

/-- R51, R68, R548: the host's own accesses: a direct write changes that byte only, a direct read returns
the byte last written, no register changes and the command port is not touched. Whether a cursor is
disturbed by it is the model's reading of R68 (log entry 4). -/
def Obligations.HostAccessesTheBuffer : Prop :=
  ∀ (s : State) (a : Nat) (v : Byte) (rest : List HostInput),
    (s.inputs = .bufferWrite a v :: rest → ∃ t, step s = .next t ∧
      (∀ b, t.mem.byteAt b = if b = a then v else s.mem.byteAt b) ∧
      t.mode = s.mode ∧ t.pos = s.pos ∧ t.lenBytes = s.lenBytes ∧ t.response = s.response ∧
      t.inputs = rest ∧
      (t.shared = true ↔ s.shared = true ∨ (s.mode ≠ .unbound ∧ a < s.lenBytes))) ∧
    (s.inputs = .bufferRead a :: rest → ∃ t, step s = .next t ∧
      t.hostData = some (s.mem.byteAt a) ∧ t.mem = s.mem ∧
      t.mode = s.mode ∧ t.pos = s.pos ∧ t.lenBytes = s.lenBytes ∧ t.response = s.response ∧
      t.inputs = rest ∧
      (t.shared = true ↔ s.shared = true ∨ (s.mode = .write ∧ a < s.lenBytes)))

/-- The model's reading of R68 and U3 (log entry 4, not a rule of the spec): a cursor whose buffer the host
shared cannot be used again, and a new construction over the buffer can be made and starts afresh. -/
def Obligations.SharedBufferIsRefused : Prop :=
  ∀ (s : State) (c : Command) (rest : List HostInput) (i : Instr),
    s.inputs = .command c :: rest → s.shared = true → decode s.cfg c = .instr i →
    (constructs i.form = false → step s = .refused .sharedBuffer) ∧
    (constructs i.form = true → ∃ t, step s = .next t ∧
      (t.response = some (.ok none) → t.shared = false))

/-! ### The invariant -/

/-- The invariant holds right after reset (R26 "It holds after reset"). -/
def Obligations.InvAtReset : Prop := State.reset.Inv

/-- Every step keeps the invariant (R26, R52, R73): from every state that meets it, whatever the host's
input, the next state meets it. -/
def Obligations.StepKeepsInv : Prop :=
  ∀ s t : State, s.Inv → step s = .next t → t.Inv
end

