-- ==== Sys2Proof/Laws/Memory.lean ====
section
/-! SUPPORT. The laws of the buffer memory: read after write (R51), every other byte left alone, and the
canonical form kept by every memory operation. -/

namespace Sys2Proof.Machine

theorem listed_store (m : Memory) (a b : Nat) (v : Byte) :
    (m.store a v).listed b = if b = a then some v else m.listed b := by
  induction m with
  | nil => simp [Memory.store, Memory.listed]
  | cons c m ih =>
    obtain ⟨k, w⟩ := c
    simp only [Memory.store]
    split
    · simp [Memory.listed]
    · split
      · rename_i h
        subst h
        simp only [Memory.listed]
        split <;> rfl
      · rename_i h1 h2
        simp only [Memory.listed, ih]
        by_cases hb : b = k
        · subst hb
          simp [Ne.symm h2]
        · simp [hb]

/-- Read after write to the same offset (R51). -/
theorem byteAt_store_same (m : Memory) (a : Nat) (v : Byte) : (m.store a v).byteAt a = v := by
  simp [Memory.byteAt, listed_store]

/-- "Writing a byte changes that byte only" (R51). -/
theorem byteAt_store_other (m : Memory) {a b : Nat} (v : Byte) (h : b ≠ a) :
    (m.store a v).byteAt b = m.byteAt b := by
  simp [Memory.byteAt, listed_store, h]

theorem byteAt_of_listed {m m' : Memory} {a : Nat} (h : m'.listed a = m.listed a) :
    m'.byteAt a = m.byteAt a := by
  simp [Memory.byteAt, h]

theorem risingAbove_store {m : Memory} {a b : Nat} {v : Byte} (hm : m.risingAbove b = true)
    (hab : b < a) : (m.store a v).risingAbove b = true := by
  induction m generalizing b with
  | nil => simpa [Memory.store, Memory.risingAbove] using hab
  | cons c m ih =>
    obtain ⟨k, w⟩ := c
    simp only [Memory.risingAbove, Bool.and_eq_true, decide_eq_true_eq] at hm
    simp only [Memory.store]
    split
    · rename_i h
      simp [Memory.risingAbove, hab, h, hm.2]
    · split
      · rename_i h
        subst h
        simp [Memory.risingAbove, hab, hm.2]
      · simp only [Memory.risingAbove, Bool.and_eq_true, decide_eq_true_eq]
        exact ⟨hm.1, ih hm.2 (by omega)⟩

theorem wf_of_risingAbove {m : Memory} {b : Nat} (h : m.risingAbove b = true) : m.wf = true := by
  cases m with
  | nil => rfl
  | cons c m =>
    simp only [Memory.risingAbove, Bool.and_eq_true] at h
    exact h.2

/-- A store keeps the canonical form. -/
theorem wf_store {m : Memory} (a : Nat) (v : Byte) (h : m.wf = true) :
    (m.store a v).wf = true := by
  cases m with
  | nil => rfl
  | cons c m =>
    obtain ⟨k, w⟩ := c
    have hm : Memory.risingAbove k m = true := h
    simp only [Memory.store]
    split
    · rename_i hlt
      simp [Memory.wf, Memory.risingAbove, hlt, hm]
    · split
      · rename_i heq
        subst heq
        exact hm
      · exact risingAbove_store hm (by omega)

/-- Storing a command's lanes keeps the canonical form. -/
theorem wf_storeLanes (ls : List Lane) {m : Memory} (b : Nat) (h : m.wf = true) :
    (m.storeLanes b ls).wf = true := by
  induction ls generalizing m b with
  | nil => exact h
  | cons l ls ih =>
    simp only [Memory.storeLanes]
    split
    · exact ih _ (wf_store _ _ h)
    · exact ih _ h

/-- So does a write torn by a reset. -/
theorem wf_tornLanes (ls : List Lane) {m : Memory} (k b j : Nat) (h : m.wf = true) :
    (tornLanes k m b j ls).wf = true := by
  induction ls generalizing m b j with
  | nil => exact h
  | cons l ls ih =>
    simp only [tornLanes]
    split
    · split
      · exact ih _ _ (wf_store _ _ h)
      · exact ih _ _ h
    · exact ih _ _ h

/-- What the buffer holds after a command's lanes are stored: at an offset below the first lane the old
byte, at lane `j`'s offset the byte of an asserted write-enable, else the old byte. -/
theorem listed_storeLanes (ls : List Lane) (m : Memory) (b a : Nat) :
    (m.storeLanes b ls).listed a =
      if a < b then m.listed a
      else match (ls.getD (a - b) Lane.idle).wdata with
        | some v => some v
        | none => m.listed a := by
  induction ls generalizing m b with
  | nil => simp [Memory.storeLanes, Lane.idle]
  | cons l ls ih =>
    have key : ∀ m' : Memory, (∀ c, c ≠ b → m'.listed c = m.listed c) →
        m'.listed b = (match l.wdata with | some v => some v | none => m.listed b) →
        (m'.storeLanes (b + 1) ls).listed a =
          if a < b then m.listed a
          else match ((l :: ls).getD (a - b) Lane.idle).wdata with
            | some v => some v
            | none => m.listed a := by
      intro m' hoff hat
      rw [ih]
      rcases lt_trichotomy a b with h | h | h
      · rw [if_pos (by omega), if_pos h, hoff a (by omega)]
      · subst h
        rw [if_pos (by omega), if_neg (by omega), hat]
        simp
      · rw [if_neg (by omega), if_neg (by omega), hoff a (by omega)]
        obtain ⟨d, rfl⟩ : ∃ d, a = b + 1 + d := ⟨a - (b + 1), by omega⟩
        rw [show b + 1 + d - b = d + 1 by omega, show b + 1 + d - (b + 1) = d by omega]
        simp
    cases hl : l.wdata with
    | none =>
      simp only [Memory.storeLanes, hl]
      exact key m (fun _ _ => rfl) (by rw [hl])
    | some v =>
      simp only [Memory.storeLanes, hl]
      refine key (m.store b v) (fun c hc => ?_) ?_
      · rw [listed_store, if_neg hc]
      · rw [hl, listed_store, if_pos rfl]

/-- What the buffer holds after a torn write: each byte is the old one or the lane's new one. -/
theorem listed_tornLanes (ls : List Lane) (m : Memory) (k b j a : Nat) :
    (tornLanes k m b j ls).listed a = m.listed a ∨
      (b ≤ a ∧ ∃ v, (ls.getD (a - b) Lane.idle).wdata = some v ∧
        (tornLanes k m b j ls).listed a = some v) := by
  induction ls generalizing m b j with
  | nil => exact .inl rfl
  | cons l ls ih =>
    have step : ∀ m' : Memory,
        (m'.listed a = m.listed a ∨ (a = b ∧ ∃ v, l.wdata = some v ∧ m'.listed a = some v)) →
        (tornLanes k m' (b + 1) (j + 1) ls).listed a = m.listed a ∨
          (b ≤ a ∧ ∃ v, ((l :: ls).getD (a - b) Lane.idle).wdata = some v ∧
            (tornLanes k m' (b + 1) (j + 1) ls).listed a = some v) := by
      intro m' hm
      rcases ih m' (b + 1) (j + 1) with h | ⟨hle, v, hv, h⟩
      · rw [h]
        rcases hm with hm | ⟨rfl, v, hv, hm⟩
        · exact .inl hm
        · exact .inr ⟨le_rfl, v, by simpa using hv, hm⟩
      · refine .inr ⟨by omega, v, ?_, h⟩
        obtain ⟨d, rfl⟩ : ∃ d, a = b + 1 + d := ⟨a - (b + 1), by omega⟩
        rw [show b + 1 + d - b = d + 1 by omega]
        rw [show b + 1 + d - (b + 1) = d by omega] at hv
        simpa using hv
    cases hl : l.wdata with
    | none =>
      simp only [tornLanes, hl]
      exact step m (.inl rfl)
    | some v =>
      simp only [tornLanes, hl]
      refine step _ ?_
      split
      · rw [listed_store]
        by_cases hab : a = b
        · exact .inr ⟨hab, v, hl, by simp [hab]⟩
        · exact .inl (by simp [hab])
      · exact .inl rfl

theorem bytesFrom_length (m : Memory) (b k : Nat) : (m.bytesFrom b k).length = k := by
  induction k generalizing b with
  | zero => rfl
  | succ k ih => simp [Memory.bytesFrom, ih]

theorem bytesFrom_getElem? (m : Memory) (b k j : Nat) :
    (m.bytesFrom b k)[j]? = if j < k then some (m.byteAt (b + j)) else none := by
  induction k generalizing b j with
  | zero => simp [Memory.bytesFrom]
  | succ k ih =>
    cases j with
    | zero => simp [Memory.bytesFrom]
    | succ j => simp [Memory.bytesFrom, ih, Nat.add_assoc, Nat.add_comm 1 j]

/-- The bytes read depend on the bytes at their offsets only. -/
theorem bytesFrom_congr {m m' : Memory} {b k : Nat}
    (h : ∀ a, b ≤ a → a < b + k → m'.byteAt a = m.byteAt a) :
    m'.bytesFrom b k = m.bytesFrom b k := by
  induction k generalizing b with
  | zero => rfl
  | succ k ih =>
    simp only [Memory.bytesFrom]
    rw [h b (by omega) (by omega), ih fun a h1 h2 => h a (by omega) (by omega)]

end Sys2Proof.Machine
end

