-- ==== Sys2Proof/Laws/Datapath.lean ====
section
/-! SUPPORT. The datapath bit by bit: the masks, the read window and the extractor (R150, R155), the lane
masks, the inserter and the merge (R75, R170, R175), and the number of touched bytes (R53, R54). -/

namespace Sys2Proof.Machine

theorem mask_testBit (n i : Nat) : (mask n).testBit i = decide (i < n) := by
  simp [mask, Nat.testBit_two_pow_sub_one]

/-- Bit `t` of `LM(o, n, j)` is 1 exactly when `o <= 8j + t < o + n` (R75). -/
theorem laneMask_getLsbD (o n j t : Nat) :
    (laneMask o n j).getLsbD t =
      (decide (t < 8) && decide (o ≤ 8 * j + t) && decide (8 * j + t < o + n)) := by
  simp only [laneMask, BitVec.getLsbD_ofNat, Nat.testBit_shiftRight, Nat.testBit_shiftLeft,
    mask_testBit]
  by_cases h1 : t < 8 <;> by_cases h2 : o ≤ 8 * j + t <;> simp [h1, h2]
  omega

/-- Bit `q` of the window is bit `q mod 8` of lane `q div 8` (R150). -/
theorem window_testBit (bs : List Byte) (q : Nat) :
    (window bs).testBit q = (bs.getD (q / 8) 0).getLsbD (q % 8) := by
  induction bs generalizing q with
  | nil => simp [window]
  | cons b bs ih =>
    have hadd : window (b :: bs) = 2 ^ 8 * window bs + b.toNat := by
      simp only [window, Nat.shiftLeft_eq]; ring
    rw [hadd, Nat.testBit_two_pow_mul_add _ b.isLt]
    by_cases h : q < 8
    · simp [h, Nat.div_eq_of_lt h, Nat.mod_eq_of_lt h, BitVec.getLsbD]
    · obtain ⟨r, rfl⟩ : ∃ r, q = r + 8 := ⟨q - 8, by omega⟩
      simp [ih]

theorem extractField_getLsbD (o n w i : Nat) :
    (extractField o n w).getLsbD i =
      (decide (i < 64) && decide (i < n) && w.testBit (o + i)) := by
  simp only [extractField, BitVec.getLsbD_ofNat, Nat.testBit_and, Nat.testBit_shiftRight,
    mask_testBit]
  cases w.testBit (o + i) <;> simp

/-- Bit `t` of `d_j` is the value's bit `8j + t - o` where that is a bit of the field (R170). -/
theorem laneData_getLsbD (o n j t : Nat) (v : Data) :
    (laneData o n v j).getLsbD t =
      (decide (t < 8) && decide (o ≤ 8 * j + t) && decide (8 * j + t < o + n) &&
        v.getLsbD (8 * j + t - o)) := by
  simp only [laneData, insertion, BitVec.getLsbD_ofNat, Nat.testBit_shiftRight,
    Nat.testBit_shiftLeft, Nat.testBit_and, mask_testBit]
  by_cases h1 : t < 8 <;> by_cases h2 : o ≤ 8 * j + t <;> simp [h1, h2, BitVec.getLsbD]
  have h : (8 * j + t - o < n) ↔ (8 * j + t < o + n) := by omega
  simp [h, Bool.and_comm]

/-- The merge keeps the bits outside the mask and takes the data inside it, where the data has no bit
outside the mask (R176 (e)). -/
theorem mergeByte_getLsbD {m d old : Byte} (hd : ∀ t, d.getLsbD t = true → m.getLsbD t = true)
    (t : Nat) :
    (mergeByte m d old).getLsbD t = if m.getLsbD t then d.getLsbD t else old.getLsbD t := by
  simp only [mergeByte]
  split
  · rename_i h
    subst h
    by_cases ht : t < 8
    · have : (0xFF : Byte).getLsbD t = true := by
        interval_cases t <;> decide
      rw [if_pos this]
    · simp [BitVec.getLsbD_of_ge _ _ (Nat.le_of_not_lt ht)]
  · simp only [BitVec.getLsbD_or, BitVec.getLsbD_and, BitVec.getLsbD_not]
    by_cases ht : t < 8
    · cases hm : m.getLsbD t
      · have : d.getLsbD t = false := by
          cases hb : d.getLsbD t
          · rfl
          · rw [hd t hb] at hm; cases hm
        rw [this]; simp [ht]
      · simp
    · simp [BitVec.getLsbD_of_ge _ _ (Nat.le_of_not_lt ht)]

/-- The stored byte of lane `j`, bit by bit: the value's bit inside the field, the old bit outside it
(R170, R175). -/
theorem merged_getLsbD (o n j t : Nat) (v : Data) (old : Byte) (ht : t < 8) :
    (mergeByte (laneMask o n j) (laneData o n v j) old).getLsbD t =
      if o ≤ 8 * j + t ∧ 8 * j + t < o + n then v.getLsbD (8 * j + t - o)
      else old.getLsbD t := by
  rw [mergeByte_getLsbD]
  · simp only [laneMask_getLsbD, laneData_getLsbD]
    by_cases h1 : o ≤ 8 * j + t <;> by_cases h2 : 8 * j + t < o + n <;> simp [h1, h2, ht]
  · intro i
    simp only [laneMask_getLsbD, laneData_getLsbD]
    simp only [Bool.and_eq_true]
    exact fun h => h.1

/-- R54: after the range check every touched byte is inside the buffer. -/
theorem touched_le {b o n len : Nat} (hn : 1 ≤ n) (h : n ≤ 8 * len - (8 * b + o)) :
    b + touched o n ≤ len := by
  simp only [touched]; omega

/-- R53: at most nine bytes are touched. -/
theorem touched_le_nine {o n : Nat} (ho : o < 8) (hn : n ≤ 64) : touched o n ≤ 9 := by
  simp only [touched]; omega

theorem touched_pos {o n : Nat} (hn : 1 ≤ n) : 0 < touched o n := by
  simp only [touched]; omega

/-- A byte holds a bit of the field exactly when it is one of the touched ones (R53, R54). -/
theorem lt_touched_iff {o n j : Nat} :
    j < touched o n ↔ 8 * j < o + n := by
  simp only [touched]; omega

end Sys2Proof.Machine
end

