-- ==== Sys2Proof/Laws/Decode.lean ====
section
/-! SUPPORT. The decoder class by class: the form of what each opcode decodes to (R92, R95). -/

namespace Sys2Proof

theorem readTable_forms :
    readTable.map Instr.form = (List.range 64).map fun k => .read (k + 1) := rfl

theorem skipTable_forms :
    skipTable.map Instr.form = (List.range 64).map fun k => .skip (k + 1) := rfl

theorem writeTable_forms (v : Data) :
    (writeTable.map fun write => (write v).form) =
      (List.range 64).map fun k => .write (k + 1) v := rfl

theorem readTable_get {k : Nat} (h : k < 64) :
    ∃ i, readTable[k]? = some i ∧ i.form = .read (k + 1) := by
  have hk := congrArg (fun l => l[k]?) readTable_forms
  simp only [List.getElem?_map, List.getElem?_range h, Option.map_some] at hk
  simpa only [Option.map_eq_some_iff] using hk

theorem skipTable_get {k : Nat} (h : k < 64) :
    ∃ i, skipTable[k]? = some i ∧ i.form = .skip (k + 1) := by
  have hk := congrArg (fun l => l[k]?) skipTable_forms
  simp only [List.getElem?_map, List.getElem?_range h, Option.map_some] at hk
  simpa only [Option.map_eq_some_iff] using hk

theorem writeTable_get {k : Nat} (h : k < 64) (v : Data) :
    ∃ write, writeTable[k]? = some write ∧ (write v).form = .write (k + 1) v := by
  have hk := congrArg (fun l => l[k]?) (writeTable_forms v)
  simp only [List.getElem?_map, List.getElem?_range h, Option.map_some] at hk
  simpa only [Option.map_eq_some_iff] using hk

/-- The opcode class and index as numbers (R92). -/
theorem opcode_split (op : BitVec 8) :
    op.toNat = 64 * (op.toNat / 64) + op.toNat % 64 ∧ op.toNat / 64 < 4 ∧ op.toNat % 64 < 64 := by
  have := op.isLt
  omega

end Sys2Proof
end

