-- ==== Sys2Proof/Laws/State.lean ====
section
/-! SUPPORT. The fields of the state after each named update: one lemma per field per update, each true by
`rfl`. -/

namespace Sys2Proof.Machine

@[simp] theorem State.finish_cfg (s : State) (ls : List Lane) (r : Response) : (s.finish ls r).cfg = s.cfg := rfl
@[simp] theorem State.finish_mode (s : State) (ls : List Lane) (r : Response) : (s.finish ls r).mode = s.mode := rfl
@[simp] theorem State.finish_byteIdx (s : State) (ls : List Lane) (r : Response) : (s.finish ls r).byteIdx = s.byteIdx := rfl
@[simp] theorem State.finish_bitIdx (s : State) (ls : List Lane) (r : Response) : (s.finish ls r).bitIdx = s.bitIdx := rfl
@[simp] theorem State.finish_lenBytes (s : State) (ls : List Lane) (r : Response) : (s.finish ls r).lenBytes = s.lenBytes := rfl
@[simp] theorem State.finish_mem (s : State) (ls : List Lane) (r : Response) : (s.finish ls r).mem = s.mem := rfl
@[simp] theorem State.finish_port (s : State) (ls : List Lane) (r : Response) : (s.finish ls r).port = MemPort.drive s.byteIdx ls := rfl
@[simp] theorem State.finish_response (s : State) (ls : List Lane) (r : Response) : (s.finish ls r).response = some r := rfl
@[simp] theorem State.finish_inputs (s : State) (ls : List Lane) (r : Response) : (s.finish ls r).inputs = s.inputs := rfl
@[simp] theorem State.finish_hostData (s : State) (ls : List Lane) (r : Response) : (s.finish ls r).hostData = s.hostData := rfl
@[simp] theorem State.finish_shared (s : State) (ls : List Lane) (r : Response) : (s.finish ls r).shared = s.shared := rfl
@[simp] theorem State.finish_aborts (s : State) (ls : List Lane) (r : Response) : (s.finish ls r).aborts = s.aborts := rfl

@[simp] theorem State.advance_cfg (s : State) (n : Nat) : (s.advance n).cfg = s.cfg := rfl
@[simp] theorem State.advance_mode (s : State) (n : Nat) : (s.advance n).mode = s.mode := rfl
@[simp] theorem State.advance_byteIdx (s : State) (n : Nat) : (s.advance n).byteIdx = s.byteIdx + (s.bitIdx.toNat + n) / 8 := rfl
@[simp] theorem State.advance_bitIdx (s : State) (n : Nat) : (s.advance n).bitIdx = BitVec.ofNat 3 ((s.bitIdx.toNat + n) % 8) := rfl
@[simp] theorem State.advance_lenBytes (s : State) (n : Nat) : (s.advance n).lenBytes = s.lenBytes := rfl
@[simp] theorem State.advance_mem (s : State) (n : Nat) : (s.advance n).mem = s.mem := rfl
@[simp] theorem State.advance_port (s : State) (n : Nat) : (s.advance n).port = s.port := rfl
@[simp] theorem State.advance_response (s : State) (n : Nat) : (s.advance n).response = s.response := rfl
@[simp] theorem State.advance_inputs (s : State) (n : Nat) : (s.advance n).inputs = s.inputs := rfl
@[simp] theorem State.advance_hostData (s : State) (n : Nat) : (s.advance n).hostData = s.hostData := rfl
@[simp] theorem State.advance_shared (s : State) (n : Nat) : (s.advance n).shared = s.shared := rfl
@[simp] theorem State.advance_aborts (s : State) (n : Nat) : (s.advance n).aborts = s.aborts := rfl

@[simp] theorem State.withMem_cfg (s : State) (m : Memory) : (s.withMem m).cfg = s.cfg := rfl
@[simp] theorem State.withMem_mode (s : State) (m : Memory) : (s.withMem m).mode = s.mode := rfl
@[simp] theorem State.withMem_byteIdx (s : State) (m : Memory) : (s.withMem m).byteIdx = s.byteIdx := rfl
@[simp] theorem State.withMem_bitIdx (s : State) (m : Memory) : (s.withMem m).bitIdx = s.bitIdx := rfl
@[simp] theorem State.withMem_lenBytes (s : State) (m : Memory) : (s.withMem m).lenBytes = s.lenBytes := rfl
@[simp] theorem State.withMem_mem (s : State) (m : Memory) : (s.withMem m).mem = m := rfl
@[simp] theorem State.withMem_port (s : State) (m : Memory) : (s.withMem m).port = s.port := rfl
@[simp] theorem State.withMem_response (s : State) (m : Memory) : (s.withMem m).response = s.response := rfl
@[simp] theorem State.withMem_inputs (s : State) (m : Memory) : (s.withMem m).inputs = s.inputs := rfl
@[simp] theorem State.withMem_hostData (s : State) (m : Memory) : (s.withMem m).hostData = s.hostData := rfl
@[simp] theorem State.withMem_shared (s : State) (m : Memory) : (s.withMem m).shared = s.shared := rfl
@[simp] theorem State.withMem_aborts (s : State) (m : Memory) : (s.withMem m).aborts = s.aborts := rfl

@[simp] theorem State.bind_cfg (s : State) (md : Mode) (len off : Nat) : (s.bind md len off).cfg = s.cfg := rfl
@[simp] theorem State.bind_mode (s : State) (md : Mode) (len off : Nat) : (s.bind md len off).mode = md := rfl
@[simp] theorem State.bind_byteIdx (s : State) (md : Mode) (len off : Nat) : (s.bind md len off).byteIdx = off / 8 := rfl
@[simp] theorem State.bind_bitIdx (s : State) (md : Mode) (len off : Nat) : (s.bind md len off).bitIdx = BitVec.ofNat 3 (off % 8) := rfl
@[simp] theorem State.bind_lenBytes (s : State) (md : Mode) (len off : Nat) : (s.bind md len off).lenBytes = len := rfl
@[simp] theorem State.bind_mem (s : State) (md : Mode) (len off : Nat) : (s.bind md len off).mem = s.mem := rfl
@[simp] theorem State.bind_port (s : State) (md : Mode) (len off : Nat) : (s.bind md len off).port = s.port := rfl
@[simp] theorem State.bind_response (s : State) (md : Mode) (len off : Nat) : (s.bind md len off).response = s.response := rfl
@[simp] theorem State.bind_inputs (s : State) (md : Mode) (len off : Nat) : (s.bind md len off).inputs = s.inputs := rfl
@[simp] theorem State.bind_hostData (s : State) (md : Mode) (len off : Nat) : (s.bind md len off).hostData = s.hostData := rfl
@[simp] theorem State.bind_shared (s : State) (md : Mode) (len off : Nat) : (s.bind md len off).shared = false := rfl
@[simp] theorem State.bind_aborts (s : State) (md : Mode) (len off : Nat) : (s.bind md len off).aborts = s.aborts := rfl

@[simp] theorem State.resetEngine_cfg (s : State) : (s.resetEngine).cfg = s.cfg := rfl
@[simp] theorem State.resetEngine_mode (s : State) : (s.resetEngine).mode = .unbound := rfl
@[simp] theorem State.resetEngine_byteIdx (s : State) : (s.resetEngine).byteIdx = 0 := rfl
@[simp] theorem State.resetEngine_bitIdx (s : State) : (s.resetEngine).bitIdx = 0 := rfl
@[simp] theorem State.resetEngine_lenBytes (s : State) : (s.resetEngine).lenBytes = 0 := rfl
@[simp] theorem State.resetEngine_mem (s : State) : (s.resetEngine).mem = s.mem := rfl
@[simp] theorem State.resetEngine_port (s : State) : (s.resetEngine).port = MemPort.drive 0 [] := rfl
@[simp] theorem State.resetEngine_response (s : State) : (s.resetEngine).response = none := rfl
@[simp] theorem State.resetEngine_inputs (s : State) : (s.resetEngine).inputs = s.inputs := rfl
@[simp] theorem State.resetEngine_hostData (s : State) : (s.resetEngine).hostData = s.hostData := rfl
@[simp] theorem State.resetEngine_shared (s : State) : (s.resetEngine).shared = false := rfl
@[simp] theorem State.resetEngine_aborts (s : State) : (s.resetEngine).aborts = s.aborts := rfl

@[simp] theorem State.withInputs_cfg (s : State) (es : List HostInput) : (s.withInputs es).cfg = s.cfg := rfl
@[simp] theorem State.withInputs_mode (s : State) (es : List HostInput) : (s.withInputs es).mode = s.mode := rfl
@[simp] theorem State.withInputs_byteIdx (s : State) (es : List HostInput) : (s.withInputs es).byteIdx = s.byteIdx := rfl
@[simp] theorem State.withInputs_bitIdx (s : State) (es : List HostInput) : (s.withInputs es).bitIdx = s.bitIdx := rfl
@[simp] theorem State.withInputs_lenBytes (s : State) (es : List HostInput) : (s.withInputs es).lenBytes = s.lenBytes := rfl
@[simp] theorem State.withInputs_mem (s : State) (es : List HostInput) : (s.withInputs es).mem = s.mem := rfl
@[simp] theorem State.withInputs_port (s : State) (es : List HostInput) : (s.withInputs es).port = s.port := rfl
@[simp] theorem State.withInputs_response (s : State) (es : List HostInput) : (s.withInputs es).response = s.response := rfl
@[simp] theorem State.withInputs_inputs (s : State) (es : List HostInput) : (s.withInputs es).inputs = es := rfl
@[simp] theorem State.withInputs_hostData (s : State) (es : List HostInput) : (s.withInputs es).hostData = s.hostData := rfl
@[simp] theorem State.withInputs_shared (s : State) (es : List HostInput) : (s.withInputs es).shared = s.shared := rfl
@[simp] theorem State.withInputs_aborts (s : State) (es : List HostInput) : (s.withInputs es).aborts = s.aborts := rfl

@[simp] theorem State.presenting_cfg (s : State) (c : Command) : (s.presenting c).cfg = s.cfg := rfl
@[simp] theorem State.presenting_mode (s : State) (c : Command) : (s.presenting c).mode = s.mode := rfl
@[simp] theorem State.presenting_byteIdx (s : State) (c : Command) : (s.presenting c).byteIdx = s.byteIdx := rfl
@[simp] theorem State.presenting_bitIdx (s : State) (c : Command) : (s.presenting c).bitIdx = s.bitIdx := rfl
@[simp] theorem State.presenting_lenBytes (s : State) (c : Command) : (s.presenting c).lenBytes = s.lenBytes := rfl
@[simp] theorem State.presenting_mem (s : State) (c : Command) : (s.presenting c).mem = s.mem := rfl
@[simp] theorem State.presenting_port (s : State) (c : Command) : (s.presenting c).port = s.port := rfl
@[simp] theorem State.presenting_response (s : State) (c : Command) : (s.presenting c).response = s.response := rfl
@[simp] theorem State.presenting_inputs (s : State) (c : Command) : (s.presenting c).inputs = .command c :: s.inputs := rfl
@[simp] theorem State.presenting_hostData (s : State) (c : Command) : (s.presenting c).hostData = s.hostData := rfl
@[simp] theorem State.presenting_shared (s : State) (c : Command) : (s.presenting c).shared = false := rfl
@[simp] theorem State.presenting_aborts (s : State) (c : Command) : (s.presenting c).aborts = s.aborts := rfl

@[simp] theorem hostWrite_cfg (s : State) (a : Nat) (v : Byte) : (hostWrite a v s).cfg = s.cfg := rfl
@[simp] theorem hostWrite_mode (s : State) (a : Nat) (v : Byte) : (hostWrite a v s).mode = s.mode := rfl
@[simp] theorem hostWrite_byteIdx (s : State) (a : Nat) (v : Byte) : (hostWrite a v s).byteIdx = s.byteIdx := rfl
@[simp] theorem hostWrite_bitIdx (s : State) (a : Nat) (v : Byte) : (hostWrite a v s).bitIdx = s.bitIdx := rfl
@[simp] theorem hostWrite_lenBytes (s : State) (a : Nat) (v : Byte) : (hostWrite a v s).lenBytes = s.lenBytes := rfl
@[simp] theorem hostWrite_mem (s : State) (a : Nat) (v : Byte) : (hostWrite a v s).mem = s.mem.store a v := rfl
@[simp] theorem hostWrite_port (s : State) (a : Nat) (v : Byte) : (hostWrite a v s).port = s.port := rfl
@[simp] theorem hostWrite_response (s : State) (a : Nat) (v : Byte) : (hostWrite a v s).response = s.response := rfl
@[simp] theorem hostWrite_inputs (s : State) (a : Nat) (v : Byte) : (hostWrite a v s).inputs = s.inputs := rfl
@[simp] theorem hostWrite_hostData (s : State) (a : Nat) (v : Byte) : (hostWrite a v s).hostData = s.hostData := rfl
@[simp] theorem hostWrite_shared (s : State) (a : Nat) (v : Byte) : (hostWrite a v s).shared = (s.shared || breaksExclusion s a true) := rfl
@[simp] theorem hostWrite_aborts (s : State) (a : Nat) (v : Byte) : (hostWrite a v s).aborts = s.aborts := rfl

@[simp] theorem hostRead_cfg (s : State) (a : Nat) : (hostRead a s).cfg = s.cfg := rfl
@[simp] theorem hostRead_mode (s : State) (a : Nat) : (hostRead a s).mode = s.mode := rfl
@[simp] theorem hostRead_byteIdx (s : State) (a : Nat) : (hostRead a s).byteIdx = s.byteIdx := rfl
@[simp] theorem hostRead_bitIdx (s : State) (a : Nat) : (hostRead a s).bitIdx = s.bitIdx := rfl
@[simp] theorem hostRead_lenBytes (s : State) (a : Nat) : (hostRead a s).lenBytes = s.lenBytes := rfl
@[simp] theorem hostRead_mem (s : State) (a : Nat) : (hostRead a s).mem = s.mem := rfl
@[simp] theorem hostRead_port (s : State) (a : Nat) : (hostRead a s).port = s.port := rfl
@[simp] theorem hostRead_response (s : State) (a : Nat) : (hostRead a s).response = s.response := rfl
@[simp] theorem hostRead_inputs (s : State) (a : Nat) : (hostRead a s).inputs = s.inputs := rfl
@[simp] theorem hostRead_hostData (s : State) (a : Nat) : (hostRead a s).hostData = some (s.mem.byteAt a) := rfl
@[simp] theorem hostRead_shared (s : State) (a : Nat) : (hostRead a s).shared = (s.shared || breaksExclusion s a false) := rfl
@[simp] theorem hostRead_aborts (s : State) (a : Nat) : (hostRead a s).aborts = s.aborts := rfl

end Sys2Proof.Machine
end

