-- ==== Sys2Proof/Laws/Ops.lean ====
section
/-! SUPPORT. What each shared operation can do, said once: for every operation, the exact result under the
conditions of the spec, and the list of the cases in which it answers a next state. -/

namespace Sys2Proof.Machine

/-! ### Positions and the memory port -/

/-- The two-register advance is `POS <- POS + n` (R140). -/
theorem advance_pos (s : State) (n : Nat) : (s.advance n).pos = s.pos + n := by
  simp only [State.pos, State.advance_byteIdx, State.advance_bitIdx, BitVec.toNat_ofNat]
  omega

theorem bind_pos (s : State) (md : Mode) (len off : Nat) : (s.bind md len off).pos = off := by
  simp only [State.pos, State.bind_byteIdx, State.bind_bitIdx, BitVec.toNat_ofNat]
  omega

theorem pos_of_registers {s t : State} (h1 : t.byteIdx = s.byteIdx) (h2 : t.bitIdx = s.bitIdx) :
    t.pos = s.pos := by
  simp [State.pos, h1, h2]

@[simp] theorem finish_pos (s : State) (ls : List Lane) (r : Response) :
    (s.finish ls r).pos = s.pos := rfl

@[simp] theorem withMem_pos (s : State) (m : Memory) : (s.withMem m).pos = s.pos := rfl

@[simp] theorem advance_lenBits (s : State) (n : Nat) : (s.advance n).lenBits = s.lenBits := rfl

@[simp] theorem finish_lenBits (s : State) (ls : List Lane) (r : Response) :
    (s.finish ls r).lenBits = s.lenBits := rfl

theorem drive_addr (b : Nat) (ls : List Lane) : (MemPort.drive b ls).addr = b := rfl

theorem drive_length {ls : List Lane} (b : Nat) (h : ls.length ≤ 9) :
    (MemPort.drive b ls).lanes.length = 9 := by
  simp only [MemPort.drive, List.length_append, List.length_replicate]
  omega

theorem drive_lane (b : Nat) (ls : List Lane) (j : Nat) :
    (MemPort.drive b ls).lanes.getD j Lane.idle = ls.getD j Lane.idle := by
  simp only [MemPort.drive, List.getD_eq_getElem?_getD]
  by_cases h : j < ls.length
  · rw [List.getElem?_append_left h]
  · rw [List.getElem?_append_right (by omega), List.getElem?_replicate,
      List.getElem?_eq_none (by omega)]
    split <;> rfl

/-- Lane `j` of a read (R60, R150). -/
theorem readLanes_getD (m : Memory) (b k j : Nat) :
    (readLanes (m.bytesFrom b k)).getD j Lane.idle =
      if j < k then ⟨some (m.byteAt (b + j)), none⟩ else Lane.idle := by
  simp only [readLanes, List.getD_eq_getElem?_getD, List.getElem?_map, bytesFrom_getElem?]
  split <;> rfl

theorem readLanes_length (m : Memory) (b k : Nat) :
    (readLanes (m.bytesFrom b k)).length = k := by
  simp [readLanes, bytesFrom_length]

/-- Lane `j` of a write (R60, R170). -/
theorem writeLanes_getD (m : Memory) (b o n : Nat) (v : Data) (j : Nat) :
    (writeLanes m b o n v).getD j Lane.idle =
      if j < touched o n then writeLane m b o n v j else Lane.idle := by
  simp only [writeLanes, List.getD_eq_getElem?_getD, List.getElem?_map]
  split
  · rename_i h
    simp [h]
  · rename_i h
    rw [List.getElem?_eq_none (by simpa using h)]
    rfl

theorem writeLanes_length (m : Memory) (b o n : Nat) (v : Data) :
    (writeLanes m b o n v).length = touched o n := by
  simp [writeLanes]

/-! ### The data of a read and the buffer after a write -/

/-- R155: bit `i` of the extracted field is absolute bit `POS + i` of the buffer. -/
theorem readData_getLsbD (m : Memory) (b o n i : Nat) :
    (extractField o n (window (m.bytesFrom b (touched o n)))).getLsbD i =
      (decide (i < 64) && decide (i < n) && bitAt m (8 * b + o + i)) := by
  rw [extractField_getLsbD, window_testBit]
  by_cases h : i < n
  · have hj : (o + i) / 8 < touched o n := by simp only [touched]; omega
    have h1 : (8 * b + o + i) / 8 = b + (o + i) / 8 := by omega
    have h2 : (8 * b + o + i) % 8 = (o + i) % 8 := by omega
    simp only [List.getD_eq_getElem?_getD, bytesFrom_getElem?, if_pos hj, bitAt, h1, h2,
      Option.getD_some]
  · simp [h]

/-- The data of a read depends on the touched bytes only (R156). -/
theorem readData_congr {m m' : Memory} {b o n : Nat}
    (h : ∀ a, b ≤ a → a < b + touched o n → m'.byteAt a = m.byteAt a) :
    extractField o n (window (m'.bytesFrom b (touched o n))) =
      extractField o n (window (m.bytesFrom b (touched o n))) := by
  rw [bytesFrom_congr h]

/-- The buffer after a write, byte by byte: the touched bytes are merged, the others not stored to
(R170). -/
theorem written_listed (m : Memory) (b o n : Nat) (v : Data) (a : Nat) :
    (m.storeLanes b (writeLanes m b o n v)).listed a =
      if b ≤ a ∧ a < b + touched o n then
        some (mergeByte (laneMask o n (a - b)) (laneData o n v (a - b)) (m.byteAt a))
      else m.listed a := by
  rw [listed_storeLanes, writeLanes_getD]
  by_cases h1 : a < b
  · rw [if_pos h1, if_neg (by omega)]
  · rw [if_neg h1]
    by_cases h2 : a - b < touched o n
    · rw [if_pos h2, if_pos (by omega)]
      simp [writeLane, show b + (a - b) = a by omega]
    · rw [if_neg h2, if_neg (by omega)]
      rfl

/-- R175: the bits of the field become the value's, every other bit of the buffer keeps its value. -/
theorem written_bitAt (m : Memory) (b o n : Nat) (v : Data) (p : Nat) (hn : 1 ≤ n) :
    bitAt (m.storeLanes b (writeLanes m b o n v)) p =
      if 8 * b + o ≤ p ∧ p < 8 * b + o + n then v.getLsbD (p - (8 * b + o)) else bitAt m p := by
  have hlt : p % 8 < 8 := Nat.mod_lt _ (by omega)
  by_cases ht : b ≤ p / 8 ∧ p / 8 < b + touched o n
  · have hb : (m.storeLanes b (writeLanes m b o n v)).byteAt (p / 8) =
        mergeByte (laneMask o n (p / 8 - b)) (laneData o n v (p / 8 - b)) (m.byteAt (p / 8)) := by
      rw [Memory.byteAt, written_listed, if_pos ht, Option.getD_some]
    rw [bitAt, hb, merged_getLsbD _ _ _ _ _ _ hlt]
    have h8 : 8 * (p / 8 - b) + p % 8 = p - 8 * b := by omega
    rw [h8]
    by_cases hin : 8 * b + o ≤ p ∧ p < 8 * b + o + n
    · rw [if_pos (by omega), if_pos hin, show p - 8 * b - o = p - (8 * b + o) by omega]
    · rw [if_neg (by omega), if_neg hin]
      rfl
  · have hb : (m.storeLanes b (writeLanes m b o n v)).byteAt (p / 8) = m.byteAt (p / 8) :=
      byteAt_of_listed (by rw [written_listed, if_neg ht])
    rw [bitAt, hb, if_neg]
    · rfl
    · simp only [touched] at ht
      omega

/-! ### The shared bodies -/

/-- An error is taken in one way only: the response, and nothing changed (R503, R504, R512). -/
theorem raiseStatus_next {r : Response} {s t : State} (h : raiseStatus r s = .next t) :
    t = s.finish [] r := by
  simp only [raiseStatus, Host.Outcome.next.injEq] at h
  exact h.symm

theorem skip_ok {c : Nat} {s : State} (h : c ≤ s.remaining) :
    skip c s = .next ((s.finish [] (.ok none)).advance c) := by
  simp [skip, Nat.not_lt.mpr h]

theorem skip_outOfRange {c : Nat} {s : State} (h : s.remaining < c) :
    skip c s = raiseStatus .outOfRange s := by
  simp [skip, h]

/-- Everything `Skip` can do (R142). -/
theorem skip_cases (c : Nat) (s : State) :
    (c ≤ s.remaining ∧ skip c s = .next ((s.finish [] (.ok none)).advance c)) ∨
      (s.remaining < c ∧ skip c s = .next (s.finish [] .outOfRange)) := by
  rcases Nat.lt_or_ge s.remaining c with h | h
  · exact .inr ⟨h, skip_outOfRange h⟩
  · exact .inl ⟨h, skip_ok h⟩

/-- The state after a successful read of `n` bits (R150). -/
def afterRead (n : Nat) (s : State) : State :=
  (s.finish (readLanes (s.mem.bytesFrom s.byteIdx (touched s.bitIdx.toNat n)))
    (.ok (some (extractField s.bitIdx.toNat n
      (window (s.mem.bytesFrom s.byteIdx (touched s.bitIdx.toNat n))))))).advance n

theorem touched_inside {n : Nat} {s : State} (hn : 1 ≤ n) (h : n ≤ s.remaining) :
    s.byteIdx + touched s.bitIdx.toNat n ≤ s.lenBytes :=
  touched_le hn h

/-- `Read(W, n)` under its conditions (R150). -/
theorem readField_ok {w n : Nat} {s : State} (hm : s.mode = .read) (h1 : 1 ≤ n) (hw : n ≤ w)
    (h : n ≤ s.remaining) : readField w n s = .next (afterRead n s) := by
  have hk := touched_inside h1 h
  simp only [readField, hm, ne_eq, not_true_eq_false, if_false]
  rw [if_neg (by omega), if_neg (by omega), if_neg (by omega)]
  rfl

/-- Everything `Read` can do: it never stops (R150, R505). -/
theorem readField_cases (w n : Nat) (s : State) :
    ((s.mode ≠ .read ∨ n < 1 ∨ w < n) ∧ readField w n s = .next (s.finish [] .illegal)) ∨
      ((s.mode = .read ∧ 1 ≤ n ∧ n ≤ w ∧ s.remaining < n) ∧
        readField w n s = .next (s.finish [] .outOfRange)) ∨
      ((s.mode = .read ∧ 1 ≤ n ∧ n ≤ w ∧ n ≤ s.remaining) ∧
        readField w n s = .next (afterRead n s)) := by
  by_cases hm : s.mode = .read
  · by_cases hc : n < 1 ∨ w < n
    · refine .inl ⟨.inr hc, ?_⟩
      simp only [readField, hm, ne_eq, not_true_eq_false, if_false]
      rw [if_pos hc]
      rfl
    · rw [not_or] at hc
      rcases Nat.lt_or_ge s.remaining n with hr | hr
      · refine .inr (.inl ⟨⟨hm, by omega, by omega, hr⟩, ?_⟩)
        simp only [readField, hm, ne_eq, not_true_eq_false, if_false]
        rw [if_neg (by omega), if_pos hr]
        rfl
      · exact .inr (.inr ⟨⟨hm, by omega, by omega, hr⟩,
          readField_ok hm (by omega) (by omega) hr⟩)
  · exact .inl ⟨.inl hm, by simp [readField, hm, raiseStatus]⟩

/-- The state after a successful write of the low `n` bits of `v` (R170). -/
def afterWrite (v : Data) (n : Nat) (s : State) : State :=
  ((s.finish (writeLanes s.mem s.byteIdx s.bitIdx.toNat n v) (.ok none)).withMem
    (s.mem.storeLanes s.byteIdx
      (writeLanes s.mem s.byteIdx s.bitIdx.toNat n v))).advance n

/-- `Write(W, v, n)` under its conditions (R170). -/
theorem writeField_ok {w n : Nat} {v : Data} {s : State} (hm : s.mode = .write) (h1 : 1 ≤ n)
    (hw : n ≤ w) (h : n ≤ s.remaining) : writeField w v n s = .next (afterWrite v n s) := by
  have hk := touched_inside h1 h
  simp only [writeField, hm, ne_eq, not_true_eq_false, if_false]
  rw [if_neg (by omega), if_neg (by omega), if_neg (by omega)]
  rfl

/-- Everything `Write` can do: it never stops (R170, R505). -/
theorem writeField_cases (w n : Nat) (v : Data) (s : State) :
    ((s.mode ≠ .write ∨ n < 1 ∨ w < n) ∧ writeField w v n s = .next (s.finish [] .illegal)) ∨
      ((s.mode = .write ∧ 1 ≤ n ∧ n ≤ w ∧ s.remaining < n) ∧
        writeField w v n s = .next (s.finish [] .outOfRange)) ∨
      ((s.mode = .write ∧ 1 ≤ n ∧ n ≤ w ∧ n ≤ s.remaining) ∧
        writeField w v n s = .next (afterWrite v n s)) := by
  by_cases hm : s.mode = .write
  · by_cases hc : n < 1 ∨ w < n
    · refine .inl ⟨.inr hc, ?_⟩
      simp only [writeField, hm, ne_eq, not_true_eq_false, if_false]
      rw [if_pos hc]
      rfl
    · rw [not_or] at hc
      rcases Nat.lt_or_ge s.remaining n with hr | hr
      · refine .inr (.inl ⟨⟨hm, by omega, by omega, hr⟩, ?_⟩)
        simp only [writeField, hm, ne_eq, not_true_eq_false, if_false]
        rw [if_neg (by omega), if_pos hr]
        rfl
      · exact .inr (.inr ⟨⟨hm, by omega, by omega, hr⟩,
          writeField_ok hm (by omega) (by omega) hr⟩)
  · exact .inl ⟨.inl hm, by simp [writeField, hm, raiseStatus]⟩

/-- Everything a construction can do (R130, R131). -/
theorem newCursor_cases (md : Mode) (len off : Nat) (s : State) :
    (off ≤ 8 * len ∧
        newCursor md len off s = .next ((s.finish [] (.ok none)).bind md len off)) ∨
      (8 * len < off ∧ newCursor md len off s = .next (s.finish [] .outOfRange)) := by
  rcases Nat.lt_or_ge (8 * len) off with h | h
  · exact .inr ⟨h, by simp [newCursor, h, raiseStatus]⟩
  · exact .inl ⟨h, by simp [newCursor, Nat.not_lt.mpr h]⟩

/-- Everything a query can do (R132, R133). -/
theorem query_cases (x : Nat) (s : State) :
    (s.mode = .unbound ∧ query x s = .next (s.finish [] .illegal)) ∨
      (s.mode ≠ .unbound ∧
        query x s = .next (s.finish [] (.ok (some (BitVec.ofNat 64 x))))) := by
  by_cases h : s.mode = .unbound
  · exact .inl ⟨h, by simp [query, h, raiseStatus]⟩
  · exact .inr ⟨h, by simp [query, h]⟩

/-! ### `exec` by forms -/

/-- The shared operation behind each form. -/
def execForm : Form → State → Result
  | .read n => readField (wd n) n
  | .write n v => writeField (wd n) v n
  | .skip n => skipFixed n
  | .newRead len off => newCursor .read len off
  | .newWrite len off => newCursor .write len off
  | .getPos => fun s => query s.pos s
  | .getRemaining => fun s => query s.remaining s
  | .advanceBits c => fun s => if s.mode ≠ .read then raiseStatus .illegal s else skip c s
  | .skipBits c => fun s => if s.mode ≠ .write then raiseStatus .illegal s else skip c s
  | .readUpTo w n => readField w n
  | .writeUpTo w v n => writeField w v n

/-- Every command does what its form says. -/
theorem exec_eq_execForm (i : Instr) (s : State) : exec i s = execForm i.form s := by
  cases i <;> rfl

end Sys2Proof.Machine
end

