-- ==== Sys2Proof/Laws/PerInstr.lean ====
section
/-! SUPPORT. Lemmas made one per command. Family `WidthsLegal`: the widths that a command's form names are
legal ones: `1 <= N <= 64` for a wrapper, `W` in 8, 16, 32, 64 for a primitive (R4, R94). -/

namespace Sys2Proof.Laws

/-- The widths in a form are the spec's: N in 1..64, W one of the four primitive widths (R4, R94). -/
def formWidthsLegal : Form → Bool
  | .read n => 1 ≤ n && n ≤ 64
  | .write n _ => 1 ≤ n && n ≤ 64
  | .skip n => 1 ≤ n && n ≤ 64
  | .newRead _ _ => true
  | .newWrite _ _ => true
  | .getPos => true
  | .getRemaining => true
  | .advanceBits _ => true
  | .skipBits _ => true
  | .readUpTo w _ => w == 8 || w == 16 || w == 32 || w == 64
  | .writeUpTo w _ _ => w == 8 || w == 16 || w == 32 || w == 64

/-- The family's statement about one command. -/
def WidthsLegal.Statement (i : Instr) : Prop := formWidthsLegal i.form = true

theorem WidthsLegal.readU1 : WidthsLegal.Statement .readU1 := rfl
theorem WidthsLegal.readU2 : WidthsLegal.Statement .readU2 := rfl
theorem WidthsLegal.readU3 : WidthsLegal.Statement .readU3 := rfl
theorem WidthsLegal.readU4 : WidthsLegal.Statement .readU4 := rfl
theorem WidthsLegal.readU5 : WidthsLegal.Statement .readU5 := rfl
theorem WidthsLegal.readU6 : WidthsLegal.Statement .readU6 := rfl
theorem WidthsLegal.readU7 : WidthsLegal.Statement .readU7 := rfl
theorem WidthsLegal.readU8 : WidthsLegal.Statement .readU8 := rfl
theorem WidthsLegal.readU9 : WidthsLegal.Statement .readU9 := rfl
theorem WidthsLegal.readU10 : WidthsLegal.Statement .readU10 := rfl
theorem WidthsLegal.readU11 : WidthsLegal.Statement .readU11 := rfl
theorem WidthsLegal.readU12 : WidthsLegal.Statement .readU12 := rfl
theorem WidthsLegal.readU13 : WidthsLegal.Statement .readU13 := rfl
theorem WidthsLegal.readU14 : WidthsLegal.Statement .readU14 := rfl
theorem WidthsLegal.readU15 : WidthsLegal.Statement .readU15 := rfl
theorem WidthsLegal.readU16 : WidthsLegal.Statement .readU16 := rfl
theorem WidthsLegal.readU17 : WidthsLegal.Statement .readU17 := rfl
theorem WidthsLegal.readU18 : WidthsLegal.Statement .readU18 := rfl
theorem WidthsLegal.readU19 : WidthsLegal.Statement .readU19 := rfl
theorem WidthsLegal.readU20 : WidthsLegal.Statement .readU20 := rfl
theorem WidthsLegal.readU21 : WidthsLegal.Statement .readU21 := rfl
theorem WidthsLegal.readU22 : WidthsLegal.Statement .readU22 := rfl
theorem WidthsLegal.readU23 : WidthsLegal.Statement .readU23 := rfl
theorem WidthsLegal.readU24 : WidthsLegal.Statement .readU24 := rfl
theorem WidthsLegal.readU25 : WidthsLegal.Statement .readU25 := rfl
theorem WidthsLegal.readU26 : WidthsLegal.Statement .readU26 := rfl
theorem WidthsLegal.readU27 : WidthsLegal.Statement .readU27 := rfl
theorem WidthsLegal.readU28 : WidthsLegal.Statement .readU28 := rfl
theorem WidthsLegal.readU29 : WidthsLegal.Statement .readU29 := rfl
theorem WidthsLegal.readU30 : WidthsLegal.Statement .readU30 := rfl
theorem WidthsLegal.readU31 : WidthsLegal.Statement .readU31 := rfl
theorem WidthsLegal.readU32 : WidthsLegal.Statement .readU32 := rfl
theorem WidthsLegal.readU33 : WidthsLegal.Statement .readU33 := rfl
theorem WidthsLegal.readU34 : WidthsLegal.Statement .readU34 := rfl
theorem WidthsLegal.readU35 : WidthsLegal.Statement .readU35 := rfl
theorem WidthsLegal.readU36 : WidthsLegal.Statement .readU36 := rfl
theorem WidthsLegal.readU37 : WidthsLegal.Statement .readU37 := rfl
theorem WidthsLegal.readU38 : WidthsLegal.Statement .readU38 := rfl
theorem WidthsLegal.readU39 : WidthsLegal.Statement .readU39 := rfl
theorem WidthsLegal.readU40 : WidthsLegal.Statement .readU40 := rfl
theorem WidthsLegal.readU41 : WidthsLegal.Statement .readU41 := rfl
theorem WidthsLegal.readU42 : WidthsLegal.Statement .readU42 := rfl
theorem WidthsLegal.readU43 : WidthsLegal.Statement .readU43 := rfl
theorem WidthsLegal.readU44 : WidthsLegal.Statement .readU44 := rfl
theorem WidthsLegal.readU45 : WidthsLegal.Statement .readU45 := rfl
theorem WidthsLegal.readU46 : WidthsLegal.Statement .readU46 := rfl
theorem WidthsLegal.readU47 : WidthsLegal.Statement .readU47 := rfl
theorem WidthsLegal.readU48 : WidthsLegal.Statement .readU48 := rfl
theorem WidthsLegal.readU49 : WidthsLegal.Statement .readU49 := rfl
theorem WidthsLegal.readU50 : WidthsLegal.Statement .readU50 := rfl
theorem WidthsLegal.readU51 : WidthsLegal.Statement .readU51 := rfl
theorem WidthsLegal.readU52 : WidthsLegal.Statement .readU52 := rfl
theorem WidthsLegal.readU53 : WidthsLegal.Statement .readU53 := rfl
theorem WidthsLegal.readU54 : WidthsLegal.Statement .readU54 := rfl
theorem WidthsLegal.readU55 : WidthsLegal.Statement .readU55 := rfl
theorem WidthsLegal.readU56 : WidthsLegal.Statement .readU56 := rfl
theorem WidthsLegal.readU57 : WidthsLegal.Statement .readU57 := rfl
theorem WidthsLegal.readU58 : WidthsLegal.Statement .readU58 := rfl
theorem WidthsLegal.readU59 : WidthsLegal.Statement .readU59 := rfl
theorem WidthsLegal.readU60 : WidthsLegal.Statement .readU60 := rfl
theorem WidthsLegal.readU61 : WidthsLegal.Statement .readU61 := rfl
theorem WidthsLegal.readU62 : WidthsLegal.Statement .readU62 := rfl
theorem WidthsLegal.readU63 : WidthsLegal.Statement .readU63 := rfl
theorem WidthsLegal.readU64 : WidthsLegal.Statement .readU64 := rfl
theorem WidthsLegal.writeU1 (v : Data) : WidthsLegal.Statement (.writeU1 v) := rfl
theorem WidthsLegal.writeU2 (v : Data) : WidthsLegal.Statement (.writeU2 v) := rfl
theorem WidthsLegal.writeU3 (v : Data) : WidthsLegal.Statement (.writeU3 v) := rfl
theorem WidthsLegal.writeU4 (v : Data) : WidthsLegal.Statement (.writeU4 v) := rfl
theorem WidthsLegal.writeU5 (v : Data) : WidthsLegal.Statement (.writeU5 v) := rfl
theorem WidthsLegal.writeU6 (v : Data) : WidthsLegal.Statement (.writeU6 v) := rfl
theorem WidthsLegal.writeU7 (v : Data) : WidthsLegal.Statement (.writeU7 v) := rfl
theorem WidthsLegal.writeU8 (v : Data) : WidthsLegal.Statement (.writeU8 v) := rfl
theorem WidthsLegal.writeU9 (v : Data) : WidthsLegal.Statement (.writeU9 v) := rfl
theorem WidthsLegal.writeU10 (v : Data) : WidthsLegal.Statement (.writeU10 v) := rfl
theorem WidthsLegal.writeU11 (v : Data) : WidthsLegal.Statement (.writeU11 v) := rfl
theorem WidthsLegal.writeU12 (v : Data) : WidthsLegal.Statement (.writeU12 v) := rfl
theorem WidthsLegal.writeU13 (v : Data) : WidthsLegal.Statement (.writeU13 v) := rfl
theorem WidthsLegal.writeU14 (v : Data) : WidthsLegal.Statement (.writeU14 v) := rfl
theorem WidthsLegal.writeU15 (v : Data) : WidthsLegal.Statement (.writeU15 v) := rfl
theorem WidthsLegal.writeU16 (v : Data) : WidthsLegal.Statement (.writeU16 v) := rfl
theorem WidthsLegal.writeU17 (v : Data) : WidthsLegal.Statement (.writeU17 v) := rfl
theorem WidthsLegal.writeU18 (v : Data) : WidthsLegal.Statement (.writeU18 v) := rfl
theorem WidthsLegal.writeU19 (v : Data) : WidthsLegal.Statement (.writeU19 v) := rfl
theorem WidthsLegal.writeU20 (v : Data) : WidthsLegal.Statement (.writeU20 v) := rfl
theorem WidthsLegal.writeU21 (v : Data) : WidthsLegal.Statement (.writeU21 v) := rfl
theorem WidthsLegal.writeU22 (v : Data) : WidthsLegal.Statement (.writeU22 v) := rfl
theorem WidthsLegal.writeU23 (v : Data) : WidthsLegal.Statement (.writeU23 v) := rfl
theorem WidthsLegal.writeU24 (v : Data) : WidthsLegal.Statement (.writeU24 v) := rfl
theorem WidthsLegal.writeU25 (v : Data) : WidthsLegal.Statement (.writeU25 v) := rfl
theorem WidthsLegal.writeU26 (v : Data) : WidthsLegal.Statement (.writeU26 v) := rfl
theorem WidthsLegal.writeU27 (v : Data) : WidthsLegal.Statement (.writeU27 v) := rfl
theorem WidthsLegal.writeU28 (v : Data) : WidthsLegal.Statement (.writeU28 v) := rfl
theorem WidthsLegal.writeU29 (v : Data) : WidthsLegal.Statement (.writeU29 v) := rfl
theorem WidthsLegal.writeU30 (v : Data) : WidthsLegal.Statement (.writeU30 v) := rfl
theorem WidthsLegal.writeU31 (v : Data) : WidthsLegal.Statement (.writeU31 v) := rfl
theorem WidthsLegal.writeU32 (v : Data) : WidthsLegal.Statement (.writeU32 v) := rfl
theorem WidthsLegal.writeU33 (v : Data) : WidthsLegal.Statement (.writeU33 v) := rfl
theorem WidthsLegal.writeU34 (v : Data) : WidthsLegal.Statement (.writeU34 v) := rfl
theorem WidthsLegal.writeU35 (v : Data) : WidthsLegal.Statement (.writeU35 v) := rfl
theorem WidthsLegal.writeU36 (v : Data) : WidthsLegal.Statement (.writeU36 v) := rfl
theorem WidthsLegal.writeU37 (v : Data) : WidthsLegal.Statement (.writeU37 v) := rfl
theorem WidthsLegal.writeU38 (v : Data) : WidthsLegal.Statement (.writeU38 v) := rfl
theorem WidthsLegal.writeU39 (v : Data) : WidthsLegal.Statement (.writeU39 v) := rfl
theorem WidthsLegal.writeU40 (v : Data) : WidthsLegal.Statement (.writeU40 v) := rfl
theorem WidthsLegal.writeU41 (v : Data) : WidthsLegal.Statement (.writeU41 v) := rfl
theorem WidthsLegal.writeU42 (v : Data) : WidthsLegal.Statement (.writeU42 v) := rfl
theorem WidthsLegal.writeU43 (v : Data) : WidthsLegal.Statement (.writeU43 v) := rfl
theorem WidthsLegal.writeU44 (v : Data) : WidthsLegal.Statement (.writeU44 v) := rfl
theorem WidthsLegal.writeU45 (v : Data) : WidthsLegal.Statement (.writeU45 v) := rfl
theorem WidthsLegal.writeU46 (v : Data) : WidthsLegal.Statement (.writeU46 v) := rfl
theorem WidthsLegal.writeU47 (v : Data) : WidthsLegal.Statement (.writeU47 v) := rfl
theorem WidthsLegal.writeU48 (v : Data) : WidthsLegal.Statement (.writeU48 v) := rfl
theorem WidthsLegal.writeU49 (v : Data) : WidthsLegal.Statement (.writeU49 v) := rfl
theorem WidthsLegal.writeU50 (v : Data) : WidthsLegal.Statement (.writeU50 v) := rfl
theorem WidthsLegal.writeU51 (v : Data) : WidthsLegal.Statement (.writeU51 v) := rfl
theorem WidthsLegal.writeU52 (v : Data) : WidthsLegal.Statement (.writeU52 v) := rfl
theorem WidthsLegal.writeU53 (v : Data) : WidthsLegal.Statement (.writeU53 v) := rfl
theorem WidthsLegal.writeU54 (v : Data) : WidthsLegal.Statement (.writeU54 v) := rfl
theorem WidthsLegal.writeU55 (v : Data) : WidthsLegal.Statement (.writeU55 v) := rfl
theorem WidthsLegal.writeU56 (v : Data) : WidthsLegal.Statement (.writeU56 v) := rfl
theorem WidthsLegal.writeU57 (v : Data) : WidthsLegal.Statement (.writeU57 v) := rfl
theorem WidthsLegal.writeU58 (v : Data) : WidthsLegal.Statement (.writeU58 v) := rfl
theorem WidthsLegal.writeU59 (v : Data) : WidthsLegal.Statement (.writeU59 v) := rfl
theorem WidthsLegal.writeU60 (v : Data) : WidthsLegal.Statement (.writeU60 v) := rfl
theorem WidthsLegal.writeU61 (v : Data) : WidthsLegal.Statement (.writeU61 v) := rfl
theorem WidthsLegal.writeU62 (v : Data) : WidthsLegal.Statement (.writeU62 v) := rfl
theorem WidthsLegal.writeU63 (v : Data) : WidthsLegal.Statement (.writeU63 v) := rfl
theorem WidthsLegal.writeU64 (v : Data) : WidthsLegal.Statement (.writeU64 v) := rfl
theorem WidthsLegal.skip1 : WidthsLegal.Statement .skip1 := rfl
theorem WidthsLegal.skip2 : WidthsLegal.Statement .skip2 := rfl
theorem WidthsLegal.skip3 : WidthsLegal.Statement .skip3 := rfl
theorem WidthsLegal.skip4 : WidthsLegal.Statement .skip4 := rfl
theorem WidthsLegal.skip5 : WidthsLegal.Statement .skip5 := rfl
theorem WidthsLegal.skip6 : WidthsLegal.Statement .skip6 := rfl
theorem WidthsLegal.skip7 : WidthsLegal.Statement .skip7 := rfl
theorem WidthsLegal.skip8 : WidthsLegal.Statement .skip8 := rfl
theorem WidthsLegal.skip9 : WidthsLegal.Statement .skip9 := rfl
theorem WidthsLegal.skip10 : WidthsLegal.Statement .skip10 := rfl
theorem WidthsLegal.skip11 : WidthsLegal.Statement .skip11 := rfl
theorem WidthsLegal.skip12 : WidthsLegal.Statement .skip12 := rfl
theorem WidthsLegal.skip13 : WidthsLegal.Statement .skip13 := rfl
theorem WidthsLegal.skip14 : WidthsLegal.Statement .skip14 := rfl
theorem WidthsLegal.skip15 : WidthsLegal.Statement .skip15 := rfl
theorem WidthsLegal.skip16 : WidthsLegal.Statement .skip16 := rfl
theorem WidthsLegal.skip17 : WidthsLegal.Statement .skip17 := rfl
theorem WidthsLegal.skip18 : WidthsLegal.Statement .skip18 := rfl
theorem WidthsLegal.skip19 : WidthsLegal.Statement .skip19 := rfl
theorem WidthsLegal.skip20 : WidthsLegal.Statement .skip20 := rfl
theorem WidthsLegal.skip21 : WidthsLegal.Statement .skip21 := rfl
theorem WidthsLegal.skip22 : WidthsLegal.Statement .skip22 := rfl
theorem WidthsLegal.skip23 : WidthsLegal.Statement .skip23 := rfl
theorem WidthsLegal.skip24 : WidthsLegal.Statement .skip24 := rfl
theorem WidthsLegal.skip25 : WidthsLegal.Statement .skip25 := rfl
theorem WidthsLegal.skip26 : WidthsLegal.Statement .skip26 := rfl
theorem WidthsLegal.skip27 : WidthsLegal.Statement .skip27 := rfl
theorem WidthsLegal.skip28 : WidthsLegal.Statement .skip28 := rfl
theorem WidthsLegal.skip29 : WidthsLegal.Statement .skip29 := rfl
theorem WidthsLegal.skip30 : WidthsLegal.Statement .skip30 := rfl
theorem WidthsLegal.skip31 : WidthsLegal.Statement .skip31 := rfl
theorem WidthsLegal.skip32 : WidthsLegal.Statement .skip32 := rfl
theorem WidthsLegal.skip33 : WidthsLegal.Statement .skip33 := rfl
theorem WidthsLegal.skip34 : WidthsLegal.Statement .skip34 := rfl
theorem WidthsLegal.skip35 : WidthsLegal.Statement .skip35 := rfl
theorem WidthsLegal.skip36 : WidthsLegal.Statement .skip36 := rfl
theorem WidthsLegal.skip37 : WidthsLegal.Statement .skip37 := rfl
theorem WidthsLegal.skip38 : WidthsLegal.Statement .skip38 := rfl
theorem WidthsLegal.skip39 : WidthsLegal.Statement .skip39 := rfl
theorem WidthsLegal.skip40 : WidthsLegal.Statement .skip40 := rfl
theorem WidthsLegal.skip41 : WidthsLegal.Statement .skip41 := rfl
theorem WidthsLegal.skip42 : WidthsLegal.Statement .skip42 := rfl
theorem WidthsLegal.skip43 : WidthsLegal.Statement .skip43 := rfl
theorem WidthsLegal.skip44 : WidthsLegal.Statement .skip44 := rfl
theorem WidthsLegal.skip45 : WidthsLegal.Statement .skip45 := rfl
theorem WidthsLegal.skip46 : WidthsLegal.Statement .skip46 := rfl
theorem WidthsLegal.skip47 : WidthsLegal.Statement .skip47 := rfl
theorem WidthsLegal.skip48 : WidthsLegal.Statement .skip48 := rfl
theorem WidthsLegal.skip49 : WidthsLegal.Statement .skip49 := rfl
theorem WidthsLegal.skip50 : WidthsLegal.Statement .skip50 := rfl
theorem WidthsLegal.skip51 : WidthsLegal.Statement .skip51 := rfl
theorem WidthsLegal.skip52 : WidthsLegal.Statement .skip52 := rfl
theorem WidthsLegal.skip53 : WidthsLegal.Statement .skip53 := rfl
theorem WidthsLegal.skip54 : WidthsLegal.Statement .skip54 := rfl
theorem WidthsLegal.skip55 : WidthsLegal.Statement .skip55 := rfl
theorem WidthsLegal.skip56 : WidthsLegal.Statement .skip56 := rfl
theorem WidthsLegal.skip57 : WidthsLegal.Statement .skip57 := rfl
theorem WidthsLegal.skip58 : WidthsLegal.Statement .skip58 := rfl
theorem WidthsLegal.skip59 : WidthsLegal.Statement .skip59 := rfl
theorem WidthsLegal.skip60 : WidthsLegal.Statement .skip60 := rfl
theorem WidthsLegal.skip61 : WidthsLegal.Statement .skip61 := rfl
theorem WidthsLegal.skip62 : WidthsLegal.Statement .skip62 := rfl
theorem WidthsLegal.skip63 : WidthsLegal.Statement .skip63 := rfl
theorem WidthsLegal.skip64 : WidthsLegal.Statement .skip64 := rfl
theorem WidthsLegal.newRead (len off : Nat) : WidthsLegal.Statement (.newRead len off) := rfl
theorem WidthsLegal.newWrite (len off : Nat) : WidthsLegal.Statement (.newWrite len off) := rfl
theorem WidthsLegal.getPos : WidthsLegal.Statement .getPos := rfl
theorem WidthsLegal.getRemaining : WidthsLegal.Statement .getRemaining := rfl
theorem WidthsLegal.advanceBits (c : Nat) : WidthsLegal.Statement (.advanceBits c) := rfl
theorem WidthsLegal.skipBits (c : Nat) : WidthsLegal.Statement (.skipBits c) := rfl
theorem WidthsLegal.readUpToU8 (n : Nat) : WidthsLegal.Statement (.readUpToU8 n) := rfl
theorem WidthsLegal.readUpToU16 (n : Nat) : WidthsLegal.Statement (.readUpToU16 n) := rfl
theorem WidthsLegal.readUpToU32 (n : Nat) : WidthsLegal.Statement (.readUpToU32 n) := rfl
theorem WidthsLegal.readUpToU64 (n : Nat) : WidthsLegal.Statement (.readUpToU64 n) := rfl
theorem WidthsLegal.writeUpToU8 (v : Data) (n : Nat) : WidthsLegal.Statement (.writeUpToU8 v n) := rfl
theorem WidthsLegal.writeUpToU16 (v : Data) (n : Nat) : WidthsLegal.Statement (.writeUpToU16 v n) := rfl
theorem WidthsLegal.writeUpToU32 (v : Data) (n : Nat) : WidthsLegal.Statement (.writeUpToU32 v n) := rfl
theorem WidthsLegal.writeUpToU64 (v : Data) (n : Nat) : WidthsLegal.Statement (.writeUpToU64 v n) := rfl

end Sys2Proof.Laws
end

