-- ==== Sys2Proof/Laws/Exec.lean ====
section
/-! SUPPORT. What `exec` can do, said once for all 206 commands: the state after success of each form, and
the three cases of every command. Proofs about all commands start from `exec_cases`. -/

namespace Sys2Proof.Machine

theorem form_widthsLegal (i : Instr) : Laws.formWidthsLegal i.form = true := by
  cases i <;> rfl

theorem le_wd {n : Nat} (h : n ≤ 64) : n ≤ wd n := by
  unfold wd
  split <;> (try split) <;> (try split) <;> omega

/-- The state after a command of this form has succeeded. -/
def afterOk : Form → State → State
  | .read n, s => afterRead n s
  | .readUpTo _ n, s => afterRead n s
  | .write n v, s => afterWrite v n s
  | .writeUpTo _ v n, s => afterWrite v n s
  | .skip n, s => (s.finish [] (.ok none)).advance n
  | .advanceBits c, s => (s.finish [] (.ok none)).advance c
  | .skipBits c, s => (s.finish [] (.ok none)).advance c
  | .newRead len off, s => (s.finish [] (.ok none)).bind .read len off
  | .newWrite len off, s => (s.finish [] (.ok none)).bind .write len off
  | .getPos, s => s.finish [] (.ok (some (BitVec.ofNat 64 s.pos)))
  | .getRemaining, s => s.finish [] (.ok (some (BitVec.ofNat 64 s.remaining)))

/-- What every command does: it answers a next state, and which one the table of statuses says (R505). -/
theorem exec_cases (i : Instr) (s : State) :
    (expectedStatus s i.form = .illegal ∧ exec i s = .next (s.finish [] .illegal)) ∨
      (expectedStatus s i.form = .outOfRange ∧ exec i s = .next (s.finish [] .outOfRange)) ∨
      (expectedStatus s i.form = .ok ∧ exec i s = .next (afterOk i.form s)) := by
  rw [exec_eq_execForm]
  have hw := form_widthsLegal i
  generalize i.form = f at hw
  cases f with
  | read n =>
    simp only [Laws.formWidthsLegal, Bool.and_eq_true, decide_eq_true_eq] at hw
    have hle := le_wd hw.2
    rcases readField_cases (wd n) n s with ⟨c, e⟩ | ⟨⟨hm, -, -, hr⟩, e⟩ | ⟨⟨hm, -, -, hr⟩, e⟩
    · have hm : s.mode ≠ .read := by
        rcases c with c | c | c
        · exact c
        · omega
        · omega
      exact .inl ⟨by simp [expectedStatus, accepted, hm], e⟩
    · exact .inr (.inl ⟨by simp [expectedStatus, accepted, contractKept, inRange, hm, hr], e⟩)
    · exact .inr (.inr ⟨by simp [expectedStatus, accepted, contractKept, inRange, hm, hr], e⟩)
  | write n v =>
    simp only [Laws.formWidthsLegal, Bool.and_eq_true, decide_eq_true_eq] at hw
    have hle := le_wd hw.2
    rcases writeField_cases (wd n) n v s with ⟨c, e⟩ | ⟨⟨hm, -, -, hr⟩, e⟩ | ⟨⟨hm, -, -, hr⟩, e⟩
    · have hm : s.mode ≠ .write := by
        rcases c with c | c | c
        · exact c
        · omega
        · omega
      exact .inl ⟨by simp [expectedStatus, accepted, hm], e⟩
    · exact .inr (.inl ⟨by simp [expectedStatus, accepted, contractKept, inRange, hm, hr], e⟩)
    · exact .inr (.inr ⟨by simp [expectedStatus, accepted, contractKept, inRange, hm, hr], e⟩)
  | skip n =>
    by_cases hm : s.mode = .unbound
    · exact .inl ⟨by simp [expectedStatus, accepted, hm],
        by simp [execForm, skipFixed, hm, raiseStatus]⟩
    · have e0 : execForm (.skip n) s = skip n s := by simp [execForm, skipFixed, hm]
      rw [e0]
      rcases skip_cases n s with ⟨hr, e⟩ | ⟨hr, e⟩
      · exact .inr (.inr ⟨by simp [expectedStatus, accepted, contractKept, inRange, hm, hr], e⟩)
      · exact .inr (.inl ⟨by simp [expectedStatus, accepted, contractKept, inRange, hm, hr], e⟩)
  | newRead len off =>
    rcases newCursor_cases .read len off s with ⟨h, e⟩ | ⟨h, e⟩
    · exact .inr (.inr ⟨by simp [expectedStatus, accepted, contractKept, inRange, h], e⟩)
    · exact .inr (.inl ⟨by simp [expectedStatus, accepted, contractKept, inRange, h], e⟩)
  | newWrite len off =>
    rcases newCursor_cases .write len off s with ⟨h, e⟩ | ⟨h, e⟩
    · exact .inr (.inr ⟨by simp [expectedStatus, accepted, contractKept, inRange, h], e⟩)
    · exact .inr (.inl ⟨by simp [expectedStatus, accepted, contractKept, inRange, h], e⟩)
  | getPos =>
    rcases query_cases s.pos s with ⟨h, e⟩ | ⟨h, e⟩
    · exact .inl ⟨by simp [expectedStatus, accepted, h], e⟩
    · exact .inr (.inr ⟨by simp [expectedStatus, accepted, contractKept, inRange, h], e⟩)
  | getRemaining =>
    rcases query_cases s.remaining s with ⟨h, e⟩ | ⟨h, e⟩
    · exact .inl ⟨by simp [expectedStatus, accepted, h], e⟩
    · exact .inr (.inr ⟨by simp [expectedStatus, accepted, contractKept, inRange, h], e⟩)
  | advanceBits c =>
    by_cases hm : s.mode = .read
    · have e0 : execForm (.advanceBits c) s = skip c s := by simp [execForm, hm]
      rw [e0]
      rcases skip_cases c s with ⟨hr, e⟩ | ⟨hr, e⟩
      · exact .inr (.inr ⟨by simp [expectedStatus, accepted, contractKept, inRange, hm, hr], e⟩)
      · exact .inr (.inl ⟨by simp [expectedStatus, accepted, contractKept, inRange, hm, hr], e⟩)
    · exact .inl ⟨by simp [expectedStatus, accepted, hm], by simp [execForm, hm, raiseStatus]⟩
  | skipBits c =>
    by_cases hm : s.mode = .write
    · have e0 : execForm (.skipBits c) s = skip c s := by simp [execForm, hm]
      rw [e0]
      rcases skip_cases c s with ⟨hr, e⟩ | ⟨hr, e⟩
      · exact .inr (.inr ⟨by simp [expectedStatus, accepted, contractKept, inRange, hm, hr], e⟩)
      · exact .inr (.inl ⟨by simp [expectedStatus, accepted, contractKept, inRange, hm, hr], e⟩)
    · exact .inl ⟨by simp [expectedStatus, accepted, hm], by simp [execForm, hm, raiseStatus]⟩
  | readUpTo w n =>
    rcases readField_cases w n s with ⟨c, e⟩ | ⟨⟨hm, h1, h2, hr⟩, e⟩ | ⟨⟨hm, h1, h2, hr⟩, e⟩
    · refine .inl ⟨?_, e⟩
      by_cases hm : s.mode = .read
      · have hc : contractKept (.readUpTo w n) = false := by
          simp only [contractKept, Bool.and_eq_false_iff, decide_eq_false_iff_not]
          rcases c with c | c | c
          · exact absurd hm c
          · omega
          · omega
        simp [expectedStatus, hc]
      · simp [expectedStatus, accepted, hm]
    · exact .inr (.inl ⟨by simp [expectedStatus, accepted, contractKept, inRange, *], e⟩)
    · exact .inr (.inr ⟨by simp [expectedStatus, accepted, contractKept, inRange, *], e⟩)
  | writeUpTo w v n =>
    rcases writeField_cases w n v s with ⟨c, e⟩ | ⟨⟨hm, h1, h2, hr⟩, e⟩ | ⟨⟨hm, h1, h2, hr⟩, e⟩
    · refine .inl ⟨?_, e⟩
      by_cases hm : s.mode = .write
      · have hc : contractKept (.writeUpTo w v n) = false := by
          simp only [contractKept, Bool.and_eq_false_iff, decide_eq_false_iff_not]
          rcases c with c | c | c
          · exact absurd hm c
          · omega
          · omega
        simp [expectedStatus, hc]
      · simp [expectedStatus, accepted, hm]
    · exact .inr (.inl ⟨by simp [expectedStatus, accepted, contractKept, inRange, *], e⟩)
    · exact .inr (.inr ⟨by simp [expectedStatus, accepted, contractKept, inRange, *], e⟩)

end Sys2Proof.Machine
end

