-- ==== Sys2Proof/Tests/Slice0.lean ====
section
/-! SUPPORT. The model's own tests. Every expected value is the spec's (`95_test_vectors.md` and the
examples of the wrapper rules); each test names its source. The last part holds, for every obligation with
hypotheses, a concrete case that meets them together. -/

namespace Sys2Proof.Tests

open Sys2Proof Sys2Proof.Machine

/-! ### Helpers -/

/-- The bytes from offset `a` on, as a buffer. -/
def bufferAt (a : Nat) : List Byte → Memory
  | [] => []
  | b :: bs => (a, b) :: bufferAt (a + 1) bs

/-- The buffer `EXB` of `95_test_vectors.md` section 1. -/
def exb : List Byte := [0xB6, 0x7E, 0x81, 0x5A, 0xC3, 0x0F, 0xF0, 0x99, 0x24, 0xDB]

/-- The buffer `EXF` of `45_write_wrappers_u1_u32.md`: ten bytes `FF`. -/
def exf : List Byte := List.replicate 10 0xFF

/-- The value `V0` of `95_test_vectors.md` section 1. -/
def v0 : Data := 0x9E3779B97F4A7C15

/-- A cursor in the given mode at the given position over the whole of the given bytes. -/
def cursor (m : Mode) (pos : Nat) (bytes : List Byte) : State :=
  { State.reset with
    mode := m
    lenBytes := bytes.length
    byteIdx := pos / 8
    bitIdx := BitVec.ofNat 3 (pos % 8)
    mem := bufferAt 0 bytes }

/-- The state `s` with the host about to present the inputs. -/
def State.given (s : State) (es : List HostInput) : State := s.withInputs es

/-- What `f` sees of the next state, where there is one. -/
def after {β : Type} (r : Result) (f : State → β) : Option β :=
  match r with
  | .next t => some (f t)
  | .fault _ => none
  | .refused _ => none

theorem after_some {β : Type} {r : Result} {f : State → β} {x : β} (h : after r f = some x) :
    ∃ t, r = .next t ∧ f t = x := by
  cases r with
  | next t => exact ⟨t, rfl, Option.some.inj h⟩
  | fault f => cases h
  | refused r => cases h

/-- Response and position after a command. -/
def seen (i : Instr) (s : State) : Option (Option Response × Nat) :=
  after (exec i s) fun t => (t.response, t.pos)

/-- Response, buffer and position after a command. -/
def stored (i : Instr) (s : State) : Option (Option Response × Memory × Nat) :=
  after (exec i s) fun t => (t.response, t.mem, t.pos)

/-- The four registers (mode, length, byte index, bit index) and the response after a command. -/
def registers (i : Instr) (s : State) : Option (Option Response × Mode × Nat × Nat × BitVec 3) :=
  after (exec i s) fun t => (t.response, t.mode, t.lenBytes, t.byteIdx, t.bitIdx)

/-- From `POS = 5` of `EXB` the command returns the data and ends at the position. -/
def readsAt5 (i : Instr) (d : Data) (pos : Nat) : Bool :=
  seen i (cursor .read 5 exb) == some (some (.ok (some d)), pos)

/-- From `POS = 5` of `EXF` the command leaves the bytes first in the buffer and ends at the position. -/
def writesAt5 (i : Instr) (bytes : List Byte) (pos : Nat) : Bool :=
  stored i (cursor .write 5 exf) ==
    some (some (.ok none), bufferAt 0 (bytes ++ exf.drop bytes.length), pos)

/-- From `POS = 5` of ten bytes the skip ends at the two registers, in both bound modes. -/
def skipsAt5 (i : Instr) (b : Nat) (o : BitVec 3) : Bool :=
  registers i (cursor .read 5 exb) == some (some (.ok none), .read, 10, b, o) &&
    registers i (cursor .write 5 exb) == some (some (.ok none), .write, 10, b, o)

/-- At `POS` the skip just fits in ten bytes; one bit further on it does not, and stays. -/
def lastFit (i : Instr) (pos : Nat) : Bool :=
  seen i (cursor .read pos exb) == some (some (.ok none), 80) &&
    seen i (cursor .write (pos + 1) exb) == some (some .outOfRange, pos + 1)

/-! ### Well-formedness: each check refuses an ill-formed command -/

theorem test_wf_len_newRead : (Instr.newRead (2 ^ 32) 0).wellFormed Config.default = false := by decide
theorem test_wf_off_newRead : (Instr.newRead 0 (2 ^ 35)).wellFormed Config.default = false := by decide
theorem test_wf_len_newWrite : (Instr.newWrite (2 ^ 32) 0).wellFormed Config.default = false := by decide
theorem test_wf_off_newWrite : (Instr.newWrite 0 (2 ^ 35)).wellFormed Config.default = false := by decide
theorem test_wf_advanceBits : (Instr.advanceBits (2 ^ 35)).wellFormed Config.default = false := by decide
theorem test_wf_skipBits : (Instr.skipBits (2 ^ 35)).wellFormed Config.default = false := by decide
theorem test_wf_readUpTo :
    (List.all [Instr.readUpToU8 (2 ^ 35), Instr.readUpToU16 (2 ^ 35), Instr.readUpToU32 (2 ^ 35),
      Instr.readUpToU64 (2 ^ 35)] fun i => !i.wellFormed Config.default) = true := by decide
theorem test_wf_writeUpTo :
    (List.all [Instr.writeUpToU8 0 (2 ^ 35), Instr.writeUpToU16 0 (2 ^ 35),
      Instr.writeUpToU32 0 (2 ^ 35), Instr.writeUpToU64 0 (2 ^ 35)]
      fun i => !i.wellFormed Config.default) = true := by decide
theorem test_wf_largest :
    (List.all [Instr.newRead (2 ^ 32 - 1) (2 ^ 35 - 1), Instr.newWrite (2 ^ 32 - 1) (2 ^ 35 - 1),
      Instr.advanceBits (2 ^ 35 - 1), Instr.skipBits (2 ^ 35 - 1), Instr.readUpToU8 (2 ^ 35 - 1),
      Instr.writeUpToU64 0 (2 ^ 35 - 1)] fun i => i.wellFormed Config.default) = true := by decide

/-! ### Decoding: the words of the spec -/

/-- The words of rules R201 to R264 ("Encoding" lines). -/
theorem test_decode_read_1 :
    List.all
      [(0x00, Instr.readU1), (0x01, Instr.readU2), (0x02, Instr.readU3), (0x03, Instr.readU4),
       (0x04, Instr.readU5), (0x05, Instr.readU6), (0x06, Instr.readU7), (0x07, Instr.readU8),
       (0x08, Instr.readU9), (0x09, Instr.readU10), (0x0A, Instr.readU11), (0x0B, Instr.readU12),
       (0x0C, Instr.readU13), (0x0D, Instr.readU14), (0x0E, Instr.readU15),
       (0x0F, Instr.readU16), (0x10, Instr.readU17), (0x11, Instr.readU18),
       (0x12, Instr.readU19), (0x13, Instr.readU20), (0x14, Instr.readU21),
       (0x15, Instr.readU22), (0x16, Instr.readU23), (0x17, Instr.readU24),
       (0x18, Instr.readU25), (0x19, Instr.readU26), (0x1A, Instr.readU27),
       (0x1B, Instr.readU28), (0x1C, Instr.readU29), (0x1D, Instr.readU30),
       (0x1E, Instr.readU31), (0x1F, Instr.readU32)]
      (fun p => decodeTableWord 8 p.1 = some p.2) = true := by decide

/-- The words of rules R201 to R264 ("Encoding" lines). -/
theorem test_decode_read_2 :
    List.all
      [(0x20, Instr.readU33), (0x21, Instr.readU34), (0x22, Instr.readU35),
       (0x23, Instr.readU36), (0x24, Instr.readU37), (0x25, Instr.readU38),
       (0x26, Instr.readU39), (0x27, Instr.readU40), (0x28, Instr.readU41),
       (0x29, Instr.readU42), (0x2A, Instr.readU43), (0x2B, Instr.readU44),
       (0x2C, Instr.readU45), (0x2D, Instr.readU46), (0x2E, Instr.readU47),
       (0x2F, Instr.readU48), (0x30, Instr.readU49), (0x31, Instr.readU50),
       (0x32, Instr.readU51), (0x33, Instr.readU52), (0x34, Instr.readU53),
       (0x35, Instr.readU54), (0x36, Instr.readU55), (0x37, Instr.readU56),
       (0x38, Instr.readU57), (0x39, Instr.readU58), (0x3A, Instr.readU59),
       (0x3B, Instr.readU60), (0x3C, Instr.readU61), (0x3D, Instr.readU62),
       (0x3E, Instr.readU63), (0x3F, Instr.readU64)]
      (fun p => decodeTableWord 8 p.1 = some p.2) = true := by decide

/-- The words of rules R301 to R364 ("Encoding" lines), with `VAL = 0`. -/
theorem test_decode_write_1 :
    List.all
      [(0x40, Instr.writeU1 0), (0x41, Instr.writeU2 0), (0x42, Instr.writeU3 0),
       (0x43, Instr.writeU4 0), (0x44, Instr.writeU5 0), (0x45, Instr.writeU6 0),
       (0x46, Instr.writeU7 0), (0x47, Instr.writeU8 0), (0x48, Instr.writeU9 0),
       (0x49, Instr.writeU10 0), (0x4A, Instr.writeU11 0), (0x4B, Instr.writeU12 0),
       (0x4C, Instr.writeU13 0), (0x4D, Instr.writeU14 0), (0x4E, Instr.writeU15 0),
       (0x4F, Instr.writeU16 0), (0x50, Instr.writeU17 0), (0x51, Instr.writeU18 0),
       (0x52, Instr.writeU19 0), (0x53, Instr.writeU20 0), (0x54, Instr.writeU21 0),
       (0x55, Instr.writeU22 0), (0x56, Instr.writeU23 0), (0x57, Instr.writeU24 0),
       (0x58, Instr.writeU25 0), (0x59, Instr.writeU26 0), (0x5A, Instr.writeU27 0),
       (0x5B, Instr.writeU28 0), (0x5C, Instr.writeU29 0), (0x5D, Instr.writeU30 0),
       (0x5E, Instr.writeU31 0), (0x5F, Instr.writeU32 0)]
      (fun p => decodeTableWord 8 p.1 = some p.2) = true := by decide

/-- The words of rules R301 to R364 ("Encoding" lines), with `VAL = 0`. -/
theorem test_decode_write_2 :
    List.all
      [(0x60, Instr.writeU33 0), (0x61, Instr.writeU34 0), (0x62, Instr.writeU35 0),
       (0x63, Instr.writeU36 0), (0x64, Instr.writeU37 0), (0x65, Instr.writeU38 0),
       (0x66, Instr.writeU39 0), (0x67, Instr.writeU40 0), (0x68, Instr.writeU41 0),
       (0x69, Instr.writeU42 0), (0x6A, Instr.writeU43 0), (0x6B, Instr.writeU44 0),
       (0x6C, Instr.writeU45 0), (0x6D, Instr.writeU46 0), (0x6E, Instr.writeU47 0),
       (0x6F, Instr.writeU48 0), (0x70, Instr.writeU49 0), (0x71, Instr.writeU50 0),
       (0x72, Instr.writeU51 0), (0x73, Instr.writeU52 0), (0x74, Instr.writeU53 0),
       (0x75, Instr.writeU54 0), (0x76, Instr.writeU55 0), (0x77, Instr.writeU56 0),
       (0x78, Instr.writeU57 0), (0x79, Instr.writeU58 0), (0x7A, Instr.writeU59 0),
       (0x7B, Instr.writeU60 0), (0x7C, Instr.writeU61 0), (0x7D, Instr.writeU62 0),
       (0x7E, Instr.writeU63 0), (0x7F, Instr.writeU64 0)]
      (fun p => decodeTableWord 8 p.1 = some p.2) = true := by decide

/-- The words of rules R401 to R464 ("Encoding" lines). -/
theorem test_decode_skip_1 :
    List.all
      [(0x80, Instr.skip1), (0x81, Instr.skip2), (0x82, Instr.skip3), (0x83, Instr.skip4),
       (0x84, Instr.skip5), (0x85, Instr.skip6), (0x86, Instr.skip7), (0x87, Instr.skip8),
       (0x88, Instr.skip9), (0x89, Instr.skip10), (0x8A, Instr.skip11), (0x8B, Instr.skip12),
       (0x8C, Instr.skip13), (0x8D, Instr.skip14), (0x8E, Instr.skip15), (0x8F, Instr.skip16),
       (0x90, Instr.skip17), (0x91, Instr.skip18), (0x92, Instr.skip19), (0x93, Instr.skip20),
       (0x94, Instr.skip21), (0x95, Instr.skip22), (0x96, Instr.skip23), (0x97, Instr.skip24),
       (0x98, Instr.skip25), (0x99, Instr.skip26), (0x9A, Instr.skip27), (0x9B, Instr.skip28),
       (0x9C, Instr.skip29), (0x9D, Instr.skip30), (0x9E, Instr.skip31), (0x9F, Instr.skip32)]
      (fun p => decodeTableWord 8 p.1 = some p.2) = true := by decide

/-- The words of rules R401 to R464 ("Encoding" lines). -/
theorem test_decode_skip_2 :
    List.all
      [(0xA0, Instr.skip33), (0xA1, Instr.skip34), (0xA2, Instr.skip35), (0xA3, Instr.skip36),
       (0xA4, Instr.skip37), (0xA5, Instr.skip38), (0xA6, Instr.skip39), (0xA7, Instr.skip40),
       (0xA8, Instr.skip41), (0xA9, Instr.skip42), (0xAA, Instr.skip43), (0xAB, Instr.skip44),
       (0xAC, Instr.skip45), (0xAD, Instr.skip46), (0xAE, Instr.skip47), (0xAF, Instr.skip48),
       (0xB0, Instr.skip49), (0xB1, Instr.skip50), (0xB2, Instr.skip51), (0xB3, Instr.skip52),
       (0xB4, Instr.skip53), (0xB5, Instr.skip54), (0xB6, Instr.skip55), (0xB7, Instr.skip56),
       (0xB8, Instr.skip57), (0xB9, Instr.skip58), (0xBA, Instr.skip59), (0xBB, Instr.skip60),
       (0xBC, Instr.skip61), (0xBD, Instr.skip62), (0xBE, Instr.skip63), (0xBF, Instr.skip64)]
      (fun p => decodeTableWord 8 p.1 = some p.2) = true := by decide
/-- The words of rules R130 to R133, R143, R144, R151 to R154 and R171 to R174, operands 0. -/
theorem test_decode_others :
    List.all
      [(0xC0, Instr.newRead 0 0), (0xC1, Instr.newWrite 0 0), (0xC2, Instr.getPos),
       (0xC3, Instr.getRemaining), (0xC4, Instr.advanceBits 0), (0xC5, Instr.skipBits 0),
       (0xC8, Instr.readUpToU8 0), (0xC9, Instr.readUpToU16 0), (0xCA, Instr.readUpToU32 0),
       (0xCB, Instr.readUpToU64 0), (0xCC, Instr.writeUpToU8 0 0), (0xCD, Instr.writeUpToU16 0 0),
       (0xCE, Instr.writeUpToU32 0 0), (0xCF, Instr.writeUpToU64 0 0)]
      (fun p => decodeTableWord 8 p.1 = some p.2) = true := by decide

/-- The 50 reserved opcodes (R96): `C6`, `C7`, `D0` to `FF`. -/
theorem test_decode_reserved :
    (([0xC6, 0xC7] ++ (List.range 48).map (0xD0 + ·)).all
      fun w => (decodeTableWord 8 w).isNone) = true := by decide

/-- Words of programs P1 to P5 with operands (`95_test_vectors.md` section 4). -/
theorem test_decode_words_with_operands :
    List.all
      [(0x000000000000052D000000000000000004C, Instr.writeU13 0xA5A),
       (0x000000000000003F8000000000000000046, Instr.writeU7 0x7F),
       (0x0091A2B3C4D5E6F7800000000000000007F, Instr.writeU64 0x123456789ABCDEF),
       (0x000000000000007F8000000000000000047, Instr.writeU8 0xFF),
       (0x000000000000000000000005000000007C1, Instr.newWrite 10 7),
       (0x000000000000000000000001000000011C0, Instr.newRead 2 17),
       (0x000000000000000000000000000000014CA, Instr.readUpToU32 20),
       (0x000000000007FFFF80000000000000014CE, Instr.writeUpToU32 0xFFFFF 20)]
      (fun p => decodeTableWord 139 p.1 = some p.2 && encodeWord Config.default p.2 = p.1) = true := by
  decide

/-! ### One command each -/

/-- The examples of rules R201 to R264 at `POS = 5` of `EXB`: `DATA` and the new position. -/
theorem test_read_wrappers_1 :
    List.all
      [(Instr.readU1, 0x1, 6), (Instr.readU2, 0x1, 7), (Instr.readU3, 0x5, 8),
       (Instr.readU4, 0x5, 9), (Instr.readU5, 0x15, 10), (Instr.readU6, 0x35, 11),
       (Instr.readU7, 0x75, 12), (Instr.readU8, 0xF5, 13), (Instr.readU9, 0x1F5, 14),
       (Instr.readU10, 0x3F5, 15), (Instr.readU11, 0x3F5, 16), (Instr.readU12, 0xBF5, 17),
       (Instr.readU13, 0x0BF5, 18), (Instr.readU14, 0x0BF5, 19), (Instr.readU15, 0x0BF5, 20),
       (Instr.readU16, 0x0BF5, 21)]
      (fun p => readsAt5 p.1 p.2.1 p.2.2) = true := by decide

/-- The examples of rules R201 to R264 at `POS = 5` of `EXB`: `DATA` and the new position. -/
theorem test_read_wrappers_2 :
    List.all
      [(Instr.readU17, 0x00BF5, 22), (Instr.readU18, 0x00BF5, 23), (Instr.readU19, 0x40BF5, 24),
       (Instr.readU20, 0x40BF5, 25), (Instr.readU21, 0x140BF5, 26),
       (Instr.readU22, 0x140BF5, 27), (Instr.readU23, 0x540BF5, 28),
       (Instr.readU24, 0xD40BF5, 29), (Instr.readU25, 0x0D40BF5, 30),
       (Instr.readU26, 0x2D40BF5, 31), (Instr.readU27, 0x2D40BF5, 32),
       (Instr.readU28, 0xAD40BF5, 33), (Instr.readU29, 0x1AD40BF5, 34),
       (Instr.readU30, 0x1AD40BF5, 35), (Instr.readU31, 0x1AD40BF5, 36),
       (Instr.readU32, 0x1AD40BF5, 37)]
      (fun p => readsAt5 p.1 p.2.1 p.2.2) = true := by decide

/-- The examples of rules R201 to R264 at `POS = 5` of `EXB`: `DATA` and the new position. -/
theorem test_read_wrappers_3 :
    List.all
      [(Instr.readU33, 0x01AD40BF5, 38), (Instr.readU34, 0x21AD40BF5, 39),
       (Instr.readU35, 0x61AD40BF5, 40), (Instr.readU36, 0xE1AD40BF5, 41),
       (Instr.readU37, 0x1E1AD40BF5, 42), (Instr.readU38, 0x3E1AD40BF5, 43),
       (Instr.readU39, 0x7E1AD40BF5, 44), (Instr.readU40, 0x7E1AD40BF5, 45),
       (Instr.readU41, 0x07E1AD40BF5, 46), (Instr.readU42, 0x07E1AD40BF5, 47),
       (Instr.readU43, 0x07E1AD40BF5, 48), (Instr.readU44, 0x07E1AD40BF5, 49),
       (Instr.readU45, 0x007E1AD40BF5, 50), (Instr.readU46, 0x007E1AD40BF5, 51),
       (Instr.readU47, 0x007E1AD40BF5, 52), (Instr.readU48, 0x807E1AD40BF5, 53)]
      (fun p => readsAt5 p.1 p.2.1 p.2.2) = true := by decide

/-- The examples of rules R201 to R264 at `POS = 5` of `EXB`: `DATA` and the new position. -/
theorem test_read_wrappers_4 :
    List.all
      [(Instr.readU49, 0x1807E1AD40BF5, 54), (Instr.readU50, 0x3807E1AD40BF5, 55),
       (Instr.readU51, 0x7807E1AD40BF5, 56), (Instr.readU52, 0xF807E1AD40BF5, 57),
       (Instr.readU53, 0x0F807E1AD40BF5, 58), (Instr.readU54, 0x0F807E1AD40BF5, 59),
       (Instr.readU55, 0x4F807E1AD40BF5, 60), (Instr.readU56, 0xCF807E1AD40BF5, 61),
       (Instr.readU57, 0x0CF807E1AD40BF5, 62), (Instr.readU58, 0x0CF807E1AD40BF5, 63),
       (Instr.readU59, 0x4CF807E1AD40BF5, 64), (Instr.readU60, 0x4CF807E1AD40BF5, 65),
       (Instr.readU61, 0x04CF807E1AD40BF5, 66), (Instr.readU62, 0x24CF807E1AD40BF5, 67),
       (Instr.readU63, 0x24CF807E1AD40BF5, 68), (Instr.readU64, 0x24CF807E1AD40BF5, 69)]
      (fun p => readsAt5 p.1 p.2.1 p.2.2) = true := by decide

/-- The examples of rules R301 to R364 at `POS = 5` of `EXF`, ten bytes `FF`: the first bytes of the
buffer (the others stay `FF`) and the new position. -/
theorem test_write_wrappers_1 :
    List.all
      [(Instr.writeU1 v0, [0xFF], 6), (Instr.writeU2 v0, [0xBF], 7),
       (Instr.writeU3 v0, [0xBF], 8), (Instr.writeU4 v0, [0xBF, 0xFE], 9),
       (Instr.writeU5 v0, [0xBF, 0xFE], 10), (Instr.writeU6 v0, [0xBF, 0xFA], 11),
       (Instr.writeU7 v0, [0xBF, 0xF2], 12), (Instr.writeU8 v0, [0xBF, 0xE2], 13),
       (Instr.writeU9 v0, [0xBF, 0xC2], 14), (Instr.writeU10 v0, [0xBF, 0x82], 15),
       (Instr.writeU11 v0, [0xBF, 0x82], 16), (Instr.writeU12 v0, [0xBF, 0x82, 0xFF], 17),
       (Instr.writeU13 v0, [0xBF, 0x82, 0xFF], 18), (Instr.writeU14 v0, [0xBF, 0x82, 0xFF], 19),
       (Instr.writeU15 v0, [0xBF, 0x82, 0xFF], 20), (Instr.writeU16 v0, [0xBF, 0x82, 0xEF], 21)]
      (fun p => writesAt5 p.1 p.2.1 p.2.2) = true := by decide

/-- The examples of rules R301 to R364 at `POS = 5` of `EXF`, ten bytes `FF`: the first bytes of the
buffer (the others stay `FF`) and the new position. -/
theorem test_write_wrappers_2 :
    List.all
      [(Instr.writeU17 v0, [0xBF, 0x82, 0xCF], 22), (Instr.writeU18 v0, [0xBF, 0x82, 0xCF], 23),
       (Instr.writeU19 v0, [0xBF, 0x82, 0x4F], 24),
       (Instr.writeU20 v0, [0xBF, 0x82, 0x4F, 0xFF], 25),
       (Instr.writeU21 v0, [0xBF, 0x82, 0x4F, 0xFD], 26),
       (Instr.writeU22 v0, [0xBF, 0x82, 0x4F, 0xF9], 27),
       (Instr.writeU23 v0, [0xBF, 0x82, 0x4F, 0xF9], 28),
       (Instr.writeU24 v0, [0xBF, 0x82, 0x4F, 0xE9], 29),
       (Instr.writeU25 v0, [0xBF, 0x82, 0x4F, 0xE9], 30),
       (Instr.writeU26 v0, [0xBF, 0x82, 0x4F, 0xE9], 31),
       (Instr.writeU27 v0, [0xBF, 0x82, 0x4F, 0xE9], 32),
       (Instr.writeU28 v0, [0xBF, 0x82, 0x4F, 0xE9, 0xFF], 33),
       (Instr.writeU29 v0, [0xBF, 0x82, 0x4F, 0xE9, 0xFF], 34),
       (Instr.writeU30 v0, [0xBF, 0x82, 0x4F, 0xE9, 0xFF], 35),
       (Instr.writeU31 v0, [0xBF, 0x82, 0x4F, 0xE9, 0xFF], 36),
       (Instr.writeU32 v0, [0xBF, 0x82, 0x4F, 0xE9, 0xEF], 37)]
      (fun p => writesAt5 p.1 p.2.1 p.2.2) = true := by decide

/-- The examples of rules R301 to R364 at `POS = 5` of `EXF`, ten bytes `FF`: the first bytes of the
buffer (the others stay `FF`) and the new position. -/
theorem test_write_wrappers_3 :
    List.all
      [(Instr.writeU33 v0, [0xBF, 0x82, 0x4F, 0xE9, 0xEF], 38),
       (Instr.writeU34 v0, [0xBF, 0x82, 0x4F, 0xE9, 0xAF], 39),
       (Instr.writeU35 v0, [0xBF, 0x82, 0x4F, 0xE9, 0x2F], 40),
       (Instr.writeU36 v0, [0xBF, 0x82, 0x4F, 0xE9, 0x2F, 0xFF], 41),
       (Instr.writeU37 v0, [0xBF, 0x82, 0x4F, 0xE9, 0x2F, 0xFF], 42),
       (Instr.writeU38 v0, [0xBF, 0x82, 0x4F, 0xE9, 0x2F, 0xFF], 43),
       (Instr.writeU39 v0, [0xBF, 0x82, 0x4F, 0xE9, 0x2F, 0xF7], 44),
       (Instr.writeU40 v0, [0xBF, 0x82, 0x4F, 0xE9, 0x2F, 0xF7], 45),
       (Instr.writeU41 v0, [0xBF, 0x82, 0x4F, 0xE9, 0x2F, 0xF7], 46),
       (Instr.writeU42 v0, [0xBF, 0x82, 0x4F, 0xE9, 0x2F, 0xB7], 47),
       (Instr.writeU43 v0, [0xBF, 0x82, 0x4F, 0xE9, 0x2F, 0x37], 48),
       (Instr.writeU44 v0, [0xBF, 0x82, 0x4F, 0xE9, 0x2F, 0x37, 0xFF], 49),
       (Instr.writeU45 v0, [0xBF, 0x82, 0x4F, 0xE9, 0x2F, 0x37, 0xFF], 50),
       (Instr.writeU46 v0, [0xBF, 0x82, 0x4F, 0xE9, 0x2F, 0x37, 0xFF], 51),
       (Instr.writeU47 v0, [0xBF, 0x82, 0x4F, 0xE9, 0x2F, 0x37, 0xFF], 52),
       (Instr.writeU48 v0, [0xBF, 0x82, 0x4F, 0xE9, 0x2F, 0x37, 0xEF], 53)]
      (fun p => writesAt5 p.1 p.2.1 p.2.2) = true := by decide

/-- The examples of rules R301 to R364 at `POS = 5` of `EXF`, ten bytes `FF`: the first bytes of the
buffer (the others stay `FF`) and the new position. -/
theorem test_write_wrappers_4 :
    List.all
      [(Instr.writeU49 v0, [0xBF, 0x82, 0x4F, 0xE9, 0x2F, 0x37, 0xEF], 54),
       (Instr.writeU50 v0, [0xBF, 0x82, 0x4F, 0xE9, 0x2F, 0x37, 0xEF], 55),
       (Instr.writeU51 v0, [0xBF, 0x82, 0x4F, 0xE9, 0x2F, 0x37, 0xEF], 56),
       (Instr.writeU52 v0, [0xBF, 0x82, 0x4F, 0xE9, 0x2F, 0x37, 0xEF, 0xFE], 57),
       (Instr.writeU53 v0, [0xBF, 0x82, 0x4F, 0xE9, 0x2F, 0x37, 0xEF, 0xFE], 58),
       (Instr.writeU54 v0, [0xBF, 0x82, 0x4F, 0xE9, 0x2F, 0x37, 0xEF, 0xFE], 59),
       (Instr.writeU55 v0, [0xBF, 0x82, 0x4F, 0xE9, 0x2F, 0x37, 0xEF, 0xF6], 60),
       (Instr.writeU56 v0, [0xBF, 0x82, 0x4F, 0xE9, 0x2F, 0x37, 0xEF, 0xE6], 61),
       (Instr.writeU57 v0, [0xBF, 0x82, 0x4F, 0xE9, 0x2F, 0x37, 0xEF, 0xC6], 62),
       (Instr.writeU58 v0, [0xBF, 0x82, 0x4F, 0xE9, 0x2F, 0x37, 0xEF, 0xC6], 63),
       (Instr.writeU59 v0, [0xBF, 0x82, 0x4F, 0xE9, 0x2F, 0x37, 0xEF, 0xC6], 64),
       (Instr.writeU60 v0, [0xBF, 0x82, 0x4F, 0xE9, 0x2F, 0x37, 0xEF, 0xC6, 0xFF], 65),
       (Instr.writeU61 v0, [0xBF, 0x82, 0x4F, 0xE9, 0x2F, 0x37, 0xEF, 0xC6, 0xFF], 66),
       (Instr.writeU62 v0, [0xBF, 0x82, 0x4F, 0xE9, 0x2F, 0x37, 0xEF, 0xC6, 0xFB], 67),
       (Instr.writeU63 v0, [0xBF, 0x82, 0x4F, 0xE9, 0x2F, 0x37, 0xEF, 0xC6, 0xF3], 68),
       (Instr.writeU64 v0, [0xBF, 0x82, 0x4F, 0xE9, 0x2F, 0x37, 0xEF, 0xC6, 0xF3], 69)]
      (fun p => writesAt5 p.1 p.2.1 p.2.2) = true := by decide

/-- The examples of rules R401 to R464: from `POS = 5` the two registers, in READ and in WRITE, and the
last position at which the skip fits; from one bit further on it is `OUT_OF_RANGE`. -/
theorem test_skip_wrappers_1 :
    List.all
      [(Instr.skip1, 0, 6, 79), (Instr.skip2, 0, 7, 78), (Instr.skip3, 1, 0, 77),
       (Instr.skip4, 1, 1, 76), (Instr.skip5, 1, 2, 75), (Instr.skip6, 1, 3, 74),
       (Instr.skip7, 1, 4, 73), (Instr.skip8, 1, 5, 72), (Instr.skip9, 1, 6, 71),
       (Instr.skip10, 1, 7, 70), (Instr.skip11, 2, 0, 69), (Instr.skip12, 2, 1, 68),
       (Instr.skip13, 2, 2, 67), (Instr.skip14, 2, 3, 66), (Instr.skip15, 2, 4, 65),
       (Instr.skip16, 2, 5, 64), (Instr.skip17, 2, 6, 63), (Instr.skip18, 2, 7, 62),
       (Instr.skip19, 3, 0, 61), (Instr.skip20, 3, 1, 60), (Instr.skip21, 3, 2, 59),
       (Instr.skip22, 3, 3, 58), (Instr.skip23, 3, 4, 57), (Instr.skip24, 3, 5, 56),
       (Instr.skip25, 3, 6, 55), (Instr.skip26, 3, 7, 54), (Instr.skip27, 4, 0, 53),
       (Instr.skip28, 4, 1, 52), (Instr.skip29, 4, 2, 51), (Instr.skip30, 4, 3, 50),
       (Instr.skip31, 4, 4, 49), (Instr.skip32, 4, 5, 48)]
      (fun p => skipsAt5 p.1 p.2.1 p.2.2.1 && lastFit p.1 p.2.2.2) = true := by decide

/-- The examples of rules R401 to R464: from `POS = 5` the two registers, in READ and in WRITE, and the
last position at which the skip fits; from one bit further on it is `OUT_OF_RANGE`. -/
theorem test_skip_wrappers_2 :
    List.all
      [(Instr.skip33, 4, 6, 47), (Instr.skip34, 4, 7, 46), (Instr.skip35, 5, 0, 45),
       (Instr.skip36, 5, 1, 44), (Instr.skip37, 5, 2, 43), (Instr.skip38, 5, 3, 42),
       (Instr.skip39, 5, 4, 41), (Instr.skip40, 5, 5, 40), (Instr.skip41, 5, 6, 39),
       (Instr.skip42, 5, 7, 38), (Instr.skip43, 6, 0, 37), (Instr.skip44, 6, 1, 36),
       (Instr.skip45, 6, 2, 35), (Instr.skip46, 6, 3, 34), (Instr.skip47, 6, 4, 33),
       (Instr.skip48, 6, 5, 32), (Instr.skip49, 6, 6, 31), (Instr.skip50, 6, 7, 30),
       (Instr.skip51, 7, 0, 29), (Instr.skip52, 7, 1, 28), (Instr.skip53, 7, 2, 27),
       (Instr.skip54, 7, 3, 26), (Instr.skip55, 7, 4, 25), (Instr.skip56, 7, 5, 24),
       (Instr.skip57, 7, 6, 23), (Instr.skip58, 7, 7, 22), (Instr.skip59, 8, 0, 21),
       (Instr.skip60, 8, 1, 20), (Instr.skip61, 8, 2, 19), (Instr.skip62, 8, 3, 18),
       (Instr.skip63, 8, 4, 17), (Instr.skip64, 8, 5, 16)]
      (fun p => skipsAt5 p.1 p.2.1 p.2.2.1 && lastFit p.1 p.2.2.2) = true := by decide
/-- Section 3.1: construction at both ends of the range, and beyond it. -/
theorem test_newRead_at_the_end :
    registers (.newRead 10 80) (cursor .read 0 exb) = some (some (.ok none), .read, 10, 10, 0) := by
  decide
theorem test_newRead_beyond_the_end :
    registers (.newRead 3 25) (cursor .write 24 [0, 0, 0]) =
      some (some .outOfRange, .write, 3, 3, 0) := by decide
theorem test_newWrite_empty_buffer :
    registers (.newWrite 0 0) (cursor .read 80 exb) = some (some (.ok none), .write, 0, 0, 0) := by
  decide
theorem test_newWrite_empty_buffer_offset_1 :
    registers (.newWrite 0 1) (cursor .write 0 []) = some (some .outOfRange, .write, 0, 0, 0) := by
  decide

/-- Section 3.1, `new_read 10, 37` and the queries after it. -/
theorem test_getPos : seen .getPos (cursor .read 37 exb) = some (some (.ok (some 0x25)), 37) := by
  decide
theorem test_getPos_unbound : seen .getPos State.reset = some (some .illegal, 0) := by decide
theorem test_getRemaining :
    seen .getRemaining (cursor .read 37 exb) = some (some (.ok (some 0x2B)), 37) := by decide
theorem test_getRemaining_unbound : seen .getRemaining State.reset = some (some .illegal, 0) := by decide

/-- Section 3.2. -/
theorem test_advanceBits_carries :
    registers (.advanceBits 13) (cursor .read 8 exb) = some (some (.ok none), .read, 10, 2, 5) := by
  decide
theorem test_advanceBits_largest_count :
    seen (.advanceBits 34359738367) (cursor .read 80 exb) = some (some .outOfRange, 80) := by decide
theorem test_skipBits_to_the_end : seen (.skipBits 72) (cursor .write 8 exb) = some (some (.ok none), 80) := by
  decide
theorem test_skipBits_in_read : seen (.skipBits 0) (cursor .read 77 exb) = some (some .illegal, 77) := by
  decide

/-- Section 3.3. -/
theorem test_readUpToU8 :
    seen (.readUpToU8 8) (cursor .read 7 exb) = some (some (.ok (some 0xFD)), 15) := by decide
theorem test_readUpToU16 :
    seen (.readUpToU16 16) (cursor .read 7 exb) = some (some (.ok (some 0x2FD)), 23) := by decide
theorem test_readUpToU32 :
    seen (.readUpToU32 32) (cursor .read 7 exb) = some (some (.ok (some 0x86B502FD)), 39) := by decide
theorem test_readUpToU64 :
    seen (.readUpToU64 64) (cursor .read 7 exb) = some (some (.ok (some 0x4933E01F86B502FD)), 71) := by
  decide

/-- Section 3.8: the contract is judged on the whole of `ARG`, before the range. -/
theorem test_readUpToU8_contract :
    seen (.readUpToU8 9) (cursor .read 77 exb) = some (some .illegal, 77) := by decide
theorem test_readUpToU16_contract :
    seen (.readUpToU16 17) (cursor .read 77 exb) = some (some .illegal, 77) := by decide
theorem test_readUpToU32_contract :
    seen (.readUpToU32 33) (cursor .read 77 exb) = some (some .illegal, 77) := by decide
theorem test_readUpToU64_contract :
    seen (.readUpToU64 128) (cursor .read 77 exb) = some (some .illegal, 77) := by decide

/-- Section 3.5. -/
theorem test_writeUpToU8 :
    stored (.writeUpToU8 0xFF 3) (cursor .write 2 [0, 0, 0]) =
      some (some (.ok none), bufferAt 0 [0x1C, 0, 0], 5) := by decide
theorem test_writeUpToU16 :
    stored (.writeUpToU16 0xA5A 13) (cursor .write 5 [0xFF, 0xFF, 0xFF]) =
      some (some (.ok none), bufferAt 0 [0x5F, 0x4B, 0xFD], 18) := by decide
theorem test_writeUpToU32 :
    stored (.writeUpToU32 0xDEADBEEF 32) (cursor .write 7 (List.replicate 6 0x5A)) =
      some (some (.ok none), bufferAt 0 [0xDA, 0x77, 0xDF, 0x56, 0x6F, 0x5A], 39) := by decide
theorem test_writeUpToU64 :
    stored (.writeUpToU64 0xFFFFFFFFFFFFFFFF 33) (cursor .write 16 (List.replicate 10 0xAA)) =
      some (some (.ok none),
        bufferAt 0 [0xAA, 0xAA, 0xFF, 0xFF, 0xFF, 0xFF, 0xAB, 0xAA, 0xAA, 0xAA], 49) := by decide

/-- Section 3.5, first row: the lanes; the fully covered middle lane is not read. -/
theorem test_write_lanes :
    (after (exec (.writeUpToU16 0xA5A 13) (cursor .write 5 [0xFF, 0xFF, 0xFF])) fun t =>
      t.port.lanes.take 4) = some
        [⟨some 0xFF, some 0x5F⟩, ⟨none, some 0x4B⟩, ⟨some 0xFF, some 0xFD⟩, ⟨none, none⟩] := by decide

/-- Section 3.8: the last bits of a write cursor. -/
theorem test_writeUpToU16_out_of_range :
    stored (.writeUpToU16 0xFFFF 3) (cursor .write 78 exb) =
      some (some .outOfRange, bufferAt 0 exb, 78) := by decide
theorem test_writeUpToU16_zero_count :
    seen (.writeUpToU16 0xFFFF 0) (cursor .write 78 exb) = some (some .illegal, 78) := by decide

/-- Program P4 steps 2 and 7: nine lanes. -/
theorem test_writeU64_nine_lanes :
    stored (.writeU64 0x0123456789ABCDEF) (cursor .write 7 (List.replicate 10 0xAA)) =
      some (some (.ok none),
        bufferAt 0 [0xAA, 0xF7, 0xE6, 0xD5, 0xC4, 0xB3, 0xA2, 0x91, 0x80, 0xAA], 71) := by decide
theorem test_readU64_nine_lanes :
    seen .readU64
      (cursor .read 7 [0xAA, 0xF7, 0xE6, 0xD5, 0xC4, 0xB3, 0xA2, 0x91, 0x80, 0xFF]) =
      some (some (.ok (some 0x0123456789ABCDEF)), 71) := by decide

/-- Section S7, step 4, through the command port: the word of the spec runs as the next step. -/
theorem test_step_runs_the_word :
    (after (step ((cursor .write 5 [0x16, 0, 0]).withFetchWord 139
      0x00000000000000028000000000000000042)) fun t => (t.response, t.mem, t.pos, t.inputs)) =
      some (some (.ok none), bufferAt 0 [0xB6, 0, 0], 8, []) := by decide

/-- Program P5 step 5: a reserved opcode. -/
theorem test_step_reserved :
    (after (step (State.reset.withFetchWord 139 0xC6)) fun t => (t.response, t.mode)) =
      some (some .illegal, .unbound) := by decide

/-- R548, R540: a host write, a host read and a reset. -/
theorem test_host_write :
    (after (step (State.given State.reset [.bufferWrite 1 0x34])) fun t => (t.mem, t.shared)) =
      some ([(1, 0x34)], false) := by decide
theorem test_host_read :
    (after (step (State.given (cursor .read 0 exb) [.bufferRead 2])) fun t => (t.hostData, t.shared)) =
      some (some 0x81, false) := by decide
theorem test_reset_keeps_the_buffer :
    (after (step (State.given (cursor .write 13 [1, 2]) [.reset])) fun t =>
      (t.mode, t.lenBytes, t.pos, t.mem)) = some (.unbound, 0, 0, bufferAt 0 [1, 2]) := by decide

/-! ### Witnesses: the hypotheses of each obligation, met together -/

/-- Any state whose port is idle and whose registers are in order meets the invariant. -/
theorem inv_of_idle {s : State} {b : Nat} (hp : s.port = MemPort.drive b []) (hl : s.cfg.Legal)
    (h1 : s.pos ≤ s.lenBits) (h2 : s.lenBytes < 2 ^ s.cfg.aw) (h3 : s.mem.wf = true)
    (h4 : s.shared = false) : s.Inv := by
  have idle : ∀ j, s.lane j = Lane.idle := fun j => by
    simp only [State.lane, hp]
    exact drive_lane b [] j
  exact ⟨hl, h1, h2, h3, ⟨by rw [hp]; rfl, fun j hj => absurd (idle j) hj,
    fun _ j => by rw [idle]; rfl, fun _ => idle⟩, fun _ => h4⟩

/-- A command and its opcode, with operand buses all ones. -/
def ones (op : BitVec 8) : Command := ⟨op, 2 ^ 35 - 1, 2 ^ 32 - 1, -1⟩

theorem witness_DecodeEncodeRoundTrip :
    (Instr.newWrite (2 ^ 32 - 1) (2 ^ 35 - 1)).wellFormed Config.default = true ∧
      (Instr.newWrite 1 15).wellFormed ⟨1⟩ = true := by decide

theorem witness_PackedWordRoundTrip :
    (Instr.writeUpToU64 (-1) (2 ^ 35 - 1)).wellFormed Config.default = true := by decide

theorem witness_OpcodeMap :
    ((ones 0x00).op.toNat < 0x40 ∧ (ones 0x3F).op.toNat < 0x40) ∧
    (0x40 ≤ (ones 0x40).op.toNat ∧ (ones 0x7F).op.toNat < 0x80) ∧
    (0x80 ≤ (ones 0x80).op.toNat ∧ (ones 0xBF).op.toNat < 0xC0) ∧
    (ones 0xC0).op = 0xC0 ∧ (ones 0xC1).op = 0xC1 ∧ (ones 0xC2).op = 0xC2 ∧
    (ones 0xC3).op = 0xC3 ∧ (ones 0xC4).op = 0xC4 ∧ (ones 0xC5).op = 0xC5 ∧
    (ones 0xC8).op.toNat = 0xC8 + 0 ∧ (ones 0xCB).op.toNat = 0xC8 + 3 ∧
    (ones 0xCC).op.toNat = 0xCC + 0 ∧ (ones 0xCF).op.toNat = 0xCC + 3 ∧
    (ones 0xC6).op = 0xC6 ∧ (ones 0xC7).op = 0xC7 ∧ 0xD0 ≤ (ones 0xD0).op.toNat ∧
    0xD0 ≤ (ones 0xFF).op.toNat := by decide

theorem witness_UnusedFieldsIgnored :
    let c : Command := ⟨0xCE, 20, 7, 0xFFFFF⟩
    let c' : Command := ⟨0xCE, 20, 99, 0xFFFFF⟩
    let i := Instr.writeUpToU32 0xFFFFF 20
    decode Config.default c = .instr i ∧ c'.op = c.op ∧ (i.form.arg ≠ none → c'.arg = c.arg) ∧
      (i.form.len ≠ none → c'.len = c.len) ∧ (i.form.val ≠ none → c'.val = c.val) := by decide

theorem witness_DecodedOperandsAreTheBuses :
    let i := Instr.newRead (2 ^ 32 - 1) (2 ^ 35 - 1)
    decode Config.default (ones 0xC0) = .instr i ∧ i.form.arg = some (2 ^ 35 - 1) ∧
      i.form.len = some (2 ^ 32 - 1) ∧
      decode Config.default (ones 0x7F) = .instr (.writeU64 (-1)) ∧
      (Instr.writeU64 (-1)).form.val = some (-1) := by decide

theorem witness_ConstructionBindsCursor : 0 ≤ 8 * 0 ∧ 80 ≤ 8 * 10 ∧ 8 * 10 < 81 := by decide

theorem witness_QueriesAnswer :
    (cursor .read 0 exb).mode ≠ .unbound ∧ (cursor .write 80 exb).mode ≠ .unbound ∧
      State.reset.mode = .unbound := by decide

theorem witness_QueriesAddUp :
    (cursor .read 37 exb).Inv ∧ (cursor .read 37 exb).mode ≠ .unbound :=
  ⟨inv_of_idle rfl (by decide) (by decide) (by decide) (by decide) rfl, by decide⟩

theorem witness_SkipPrimitives :
    let r := cursor .read 21 exb
    let w := cursor .write 8 exb
    (59 ≤ r.lenBits - r.pos ∧ r.mode = .read) ∧ (72 ≤ w.lenBits - w.pos ∧ w.mode = .write) ∧
      r.lenBits - r.pos < 60 ∧ w.lenBits - w.pos < 73 ∧ w.mode ≠ .read ∧ r.mode ≠ .write := by
  decide

theorem witness_SkipWrappersForward :
    Instr.skip1.form = .skip 1 ∧ Instr.skip64.form = .skip 64 ∧
      (cursor .read 16 exb).mode = .read ∧ (cursor .write 16 exb).mode = .write ∧
      State.reset.mode = .unbound ∧ (cursor .write 16 exb).mode ≠ .unbound ∧
      64 ≤ (cursor .write 16 exb).lenBits - (cursor .write 16 exb).pos ∧
      (cursor .write 17 exb).mode ≠ .unbound ∧
      (cursor .write 17 exb).lenBits - (cursor .write 17 exb).pos < 64 := by decide

theorem witness_PositionAdvancesExactly :
    (∃ t, exec .readU13 (cursor .read 5 exb) = .next t ∧ t.response = some (.ok (some 0xBF5)) ∧
      advanceOf Instr.readU13.form = some 13 ∧ constructs Instr.readU13.form = false) ∧
    (∃ t, exec .readU4 (cursor .read 77 exb) = .next t ∧ t.response = some .outOfRange) := by
  refine ⟨?_, after_some (f := fun t => t.response) (by decide)⟩
  obtain ⟨t, h, e⟩ := after_some (r := exec .readU13 (cursor .read 5 exb))
    (f := fun t => t.response) (x := some (.ok (some 0xBF5))) (by decide)
  exact ⟨t, h, e, rfl, rfl⟩

theorem witness_SkipIsReadAndDiscard :
    Instr.skip13.form = .skip 13 ∧ Instr.readU13.form = .read 13 ∧
      (cursor .read 3 exb).mode = .read ∧ (∃ t, exec .skip13 (cursor .read 3 exb) = .next t ∧ t.pos = 16) ∧
      (∃ u, exec .readU13 (cursor .read 3 exb) = .next u ∧ u.pos = 16) :=
  ⟨rfl, rfl, rfl, after_some (by decide), after_some (by decide)⟩

theorem witness_ReadWrappersForward :
    Instr.readU1.form = .read 1 ∧ Instr.readU8.form = .read 8 ∧ Instr.readU9.form = .read 9 ∧
      Instr.readU16.form = .read 16 ∧ Instr.readU17.form = .read 17 ∧
      Instr.readU32.form = .read 32 ∧ Instr.readU33.form = .read 33 ∧
      Instr.readU64.form = .read 64 := by decide

theorem witness_ReadReturnsTheField :
    let s := cursor .read 16 exb
    readWidth Instr.readU64.form = some 64 ∧ readWidth (Instr.readUpToU64 64).form = some 64 ∧
      s.mode = .read ∧ contractKept Instr.readU64.form = true ∧
      contractKept (Instr.readUpToU64 64).form = true ∧ 64 ≤ s.lenBits - s.pos := by decide

theorem witness_ReadAccessesTouchedBytesOnly :
    readWidth Instr.readU13.form = some 13 ∧
    (∃ t, exec .readU13 (cursor .read 5 exb) = .next t ∧ t.response = some (.ok (some 0xBF5))) ∧
    (∃ t, exec .readU13 (cursor .read 68 exb) = .next t ∧ t.response = some .outOfRange) :=
  ⟨rfl, after_some (f := fun t => t.response) (by decide),
    after_some (f := fun t => t.response) (by decide)⟩

theorem witness_ReadIgnoresOtherBytes :
    let s := cursor .read 0 [0xB6, 0x7E]
    let m : Memory := [(0, 0xB6), (1, 0x00)]
    readWidth Instr.readU5.form = some 5 ∧ (∀ a, s.touches 5 a → m.byteAt a = s.mem.byteAt a) ∧
      m.byteAt 1 ≠ s.mem.byteAt 1 ∧ ∃ t, exec .readU5 s = .next t ∧ t.pos = 5 := by
  refine ⟨rfl, fun a h => ?_, by decide, after_some (by decide)⟩
  have h0 : a = 0 := by
    have h2 : a < 1 := h.2
    omega
  subst h0
  decide

theorem witness_ReadWidthHasNoOtherEffect :
    (Instr.readUpToU8 8).form = .readUpTo 8 8 ∧ (Instr.readUpToU64 8).form = .readUpTo 64 8 ∧
      8 ≤ 8 ∧ 8 ≤ 64 := by decide

theorem witness_WriteWrappersForward :
    (Instr.writeU1 v0).form = .write 1 v0 ∧ (Instr.writeU8 v0).form = .write 8 v0 ∧
      (Instr.writeU9 v0).form = .write 9 v0 ∧ (Instr.writeU16 v0).form = .write 16 v0 ∧
      (Instr.writeU17 v0).form = .write 17 v0 ∧ (Instr.writeU32 v0).form = .write 32 v0 ∧
      (Instr.writeU33 v0).form = .write 33 v0 ∧ (Instr.writeU64 v0).form = .write 64 v0 := by decide

theorem witness_WriteInsertsTheField :
    let s := cursor .write 16 exf
    writeWidth (Instr.writeU64 v0).form = some (64, v0) ∧
      writeWidth (Instr.writeUpToU64 v0 64).form = some (64, v0) ∧ s.mode = .write ∧
      contractKept (Instr.writeU64 v0).form = true ∧
      contractKept (Instr.writeUpToU64 v0 64).form = true ∧ 64 ≤ s.lenBits - s.pos := by decide

theorem witness_WriteLanesByCoverage :
    writeWidth (Instr.writeU13 v0).form = some (13, v0) ∧
      (∃ t, exec (.writeU13 v0) (cursor .write 5 exf) = .next t ∧ t.response = some (.ok none)) ∧
      0 < touched (cursor .write 5 exf).bitIdx.toNat 13 ∧
      touched (cursor .write 5 exf).bitIdx.toNat 13 ≤ 3 :=
  ⟨rfl, after_some (f := fun t => t.response) (by decide), by decide, by decide⟩

theorem witness_WriteUsesLowBitsOnly :
    (Instr.writeU3 0x5).form = .write 3 0x5 ∧ (Instr.writeU3 v0).form = .write 3 v0 ∧
      (∀ b, b < 3 → (0x5 : Data).getLsbD b = v0.getLsbD b) ∧
      (Instr.writeUpToU8 0x5 3).form = .writeUpTo 8 0x5 3 ∧
      (Instr.writeUpToU16 v0 3).form = .writeUpTo 16 v0 3 ∧ 3 ≤ 8 ∧ 3 ≤ 16 := by decide

theorem witness_WriteReadRoundTrip :
    (Instr.writeU13 v0).form = .write 13 v0 ∧ Instr.readU13.form = .read 13 ∧ 11 + 13 ≤ 8 * 3 := by
  decide

theorem witness_AlignedFieldsAreLittleEndian :
    (cursor .write 0 exf).bitIdx = 0 ∧ (cursor .read 8 exb).bitIdx = 0 ∧
      writeWidth (Instr.writeU16 v0).form = some (8 * 2, v0) ∧
      readWidth Instr.readU16.form = some (8 * 2) ∧
      (∃ t, exec (.writeU16 v0) (cursor .write 0 exf) = .next t ∧ t.response = some (.ok none)) ∧
      (∃ t, exec .readU16 (cursor .read 8 exb) = .next t ∧
        t.response = some (.ok (some 0x817E))) :=
  ⟨rfl, rfl, rfl, rfl, after_some (f := fun t => t.response) (by decide),
    after_some (f := fun t => t.response) (by decide)⟩

theorem witness_LaneMaskProperties :
    (7 < 8 ∧ 1 ≤ 64 ∧ 64 ≤ 64 ∧ 8 ≤ 8) ∧ (0 < 1 ∧ 1 + 1 < touched 7 64) ∧ touched 0 1 = 1 ∧
      1 < touched 7 2 := by decide

theorem witness_TouchedBytes :
    let s := cursor .read 79 exb
    (7 < 8 ∧ 1 ≤ 8 ∧ 8 ≤ 8 ∧ (8 = 8 ∨ 8 = 16 ∨ 8 = 32 ∨ 8 = 64)) ∧
      1 ≤ s.lenBits - s.pos ∧ s.touches 1 9 := by
  refine ⟨by decide, by decide, by decide, by decide⟩

theorem witness_StatusIsFirstFailedCheck : (cursor .read 77 exb).shared = false := rfl

theorem witness_WrongModeIsIllegal :
    accepted Instr.readU8.form State.reset.mode = false ∧
      accepted (Instr.writeU1 1).form (cursor .read 0 exb).mode = false ∧
      accepted (Instr.advanceBits 1).form (cursor .write 0 exb).mode = false ∧
      accepted Instr.skip1.form State.reset.mode = false := by decide

theorem witness_FailedCommandChangesNothing :
    (∃ t, exec .readU4 (cursor .read 77 exb) = .next t ∧ t.response = some .outOfRange) ∧
      Response.outOfRange.status ≠ .ok :=
  ⟨after_some (f := fun t => t.response) (by decide), by decide⟩

theorem witness_ReservedOpcodesAreIllegal :
    (ones 0xC6).op = 0xC6 ∧ (ones 0xC7).op = 0xC7 ∧ 0xD0 ≤ (ones 0xD0).op ∧ 0xD0 ≤ (ones 0xFF).op ∧
      (State.given (cursor .read 77 exb) [.command (ones 0xFF)]).inputs = [.command (ones 0xFF)] := by
  decide

theorem witness_OnlyConstructionWritesModeAndLength :
    (∃ t, exec .skip8 (cursor .read 0 exb) = .next t ∧ t.pos = 8) ∧
      constructs Instr.skip8.form = false :=
  ⟨after_some (by decide), rfl⟩

theorem witness_OnlyWriteModeWrites :
    (∃ t, exec .readU8 (cursor .read 0 exb) = .next t ∧ t.pos = 8) ∧
      (cursor .read 0 exb).mode ≠ .write ∧
      (∃ t, exec (.writeU8 v0) State.reset = .next t ∧ t.pos = 0) ∧ State.reset.mode = .unbound :=
  ⟨after_some (by decide), by decide, after_some (by decide), rfl⟩

theorem witness_StepRunsDecodedCommand :
    let s := State.given (cursor .read 5 exb) [.command ⟨0x0C, 0, 0, 0⟩]
    s.inputs = [.command ⟨0x0C, 0, 0, 0⟩] ∧
      decode s.cfg ⟨0x0C, 0, 0, 0⟩ = .instr .readU13 ∧ s.shared = false ∧
      decode s.cfg (Command.ofWord s.cfg (0x0C % 2 ^ 8)) = .instr .readU13 ∧
      decode s.cfg (Command.ofWord s.cfg (0x1800000000C1 % 2 ^ 139)) = .instr (.newWrite 3 0) := by
  decide

theorem witness_EngineWaitsForACommand : State.reset.inputs = [] := rfl

theorem witness_EveryCommandIsAnswered :
    let s := State.given (cursor .read 5 exb) [.command (ones 0x0C)]
    s.inputs = [.command (ones 0x0C)] ∧ s.shared = false := by decide

theorem witness_RunsCannotHang :
    let s := State.given (cursor .read 5 exb) [.command (ones 0x0C), .command (ones 0xFF)]
    s.inputs = [ones 0x0C, ones 0xFF].map .command ∧ s.shared = false := by decide

theorem witness_StepsNeverFault :
    let s := { State.given (cursor .read 5 exb) [.command (ones 0x0C)] with shared := true }
    step s = .refused .sharedBuffer := rfl

theorem witness_ResetUnbindsTheEngine :
    (State.given (cursor .write 13 exb) [.reset]).inputs = [.reset] ∧
      constructs Instr.getPos.form = false := by decide

theorem witness_ResetDuringACommand :
    let s := State.given (cursor .write 13 exb) [.resetDuring (ones 0x4C)]
    s.inputs = [.resetDuring (ones 0x4C)] ∧ s.shared = false := by decide

theorem witness_HostAccessesTheBuffer :
    (State.given (cursor .write 0 exb) [.bufferWrite 9 1]).inputs = [.bufferWrite 9 1] ∧
      (State.given (cursor .read 0 exb) [.bufferRead 10]).inputs = [.bufferRead 10] := by decide

theorem witness_SharedBufferIsRefused :
    let s := { State.given (cursor .read 5 exb) [.command (ones 0x0C)] with shared := true }
    let u := { State.given (cursor .read 5 exb) [.command ⟨0xC0, 0, 10, 0⟩] with shared := true }
    (s.inputs = [.command (ones 0x0C)] ∧ s.shared = true ∧
      decode s.cfg (ones 0x0C) = .instr .readU13 ∧ constructs Instr.readU13.form = false) ∧
    (u.inputs = [.command ⟨0xC0, 0, 10, 0⟩] ∧ u.shared = true ∧
      decode u.cfg ⟨0xC0, 0, 10, 0⟩ = .instr (.newRead 10 0) ∧
      constructs (Instr.newRead 10 0).form = true) := by decide

theorem witness_StepKeepsInv :
    let s := State.given (cursor .write 5 exf) [.command (ones 0x4C)]
    s.Inv ∧ ∃ t, step s = .next t ∧ t.pos = 18 :=
  ⟨inv_of_idle rfl (by decide) (by decide) (by decide) (by decide) rfl, after_some (by decide)⟩

end Sys2Proof.Tests
end

/-! PROOFS. What a step can do, input by input; what keeps the invariant of the reachable states; and the
statements about the state: `StepKeepsInv`, `OnlyConstructionWritesModeAndLength`,
`StepRunsDecodedCommand`, `InvAtReset`. -/

namespace Sys2Proof

/-! ### The decoder's operands fit their buses -/

theorem Command.argBits_lt (cfg : Config) (c : Command) : c.argBits cfg < 2 ^ cfg.pw :=
  Nat.mod_lt _ (Nat.two_pow_pos _)

theorem Command.lenBits_lt (cfg : Config) (c : Command) : c.lenBits cfg < 2 ^ cfg.aw :=
  Nat.mod_lt _ (Nat.two_pow_pos _)

/-- Class `11`: its operands are the bits of the buses `ARG` and `LEN` (R94). -/
theorem decodeClass3_wellFormed {cfg : Config} {c : Command} {k : Nat} {i : Instr}
    (h : decodeClass3 cfg c k = some i) : i.form.wellFormed cfg = true := by
  have harg := c.argBits_lt cfg
  have hlen := c.lenBits_lt cfg
  unfold decodeClass3 at h
  split at h <;> cases h <;> simp [Instr.form, Form.wellFormed, harg, hlen]

theorem decodeOp_wellFormed {cfg : Config} {c : Command} {i : Instr}
    (h : decodeOp cfg c = some i) : i.form.wellFormed cfg = true := by
  obtain ⟨-, -, hindex⟩ := opcode_split c.op
  simp only [decodeOp] at h
  split at h
  · obtain ⟨j, hj, hform⟩ := readTable_get hindex
    obtain rfl : j = i := Option.some.inj (hj.symm.trans h)
    rw [hform]; rfl
  · obtain ⟨write, hwrite, hform⟩ := writeTable_get hindex c.val
    rw [hwrite] at h
    obtain rfl : write c.val = i := Option.some.inj h
    rw [hform]; rfl
  · obtain ⟨j, hj, hform⟩ := skipTable_get hindex
    obtain rfl : j = i := Option.some.inj (hj.symm.trans h)
    rw [hform]; rfl
  · exact decodeClass3_wellFormed h

/-- A decoded command is one that the command port can carry (R90, R94). -/
theorem decode_wellFormed {cfg : Config} {c : Command} {i : Instr}
    (h : decode cfg c = .instr i) : i.form.wellFormed cfg = true := by
  unfold decode at h
  split at h
  next j hj =>
    obtain rfl : j = i := Decoded.instr.inj h
    exact decodeOp_wellFormed hj
  next => cases h

end Sys2Proof

namespace Sys2Proof.Machine

/-! ### What one step can do -/

theorem step_of_no_input {s : State} (h : s.inputs = []) : step s = .next s := by
  simp [step, h]

theorem step_of_input {s : State} {e : HostInput} {rest : List HostInput}
    (h : s.inputs = e :: rest) : step s = accept e (s.withInputs rest) := by
  simp [step, h]

theorem runCommand_of_reserved {c : Command} {s : State} {op : BitVec 8}
    (h : decode s.cfg c = .reserved op) : runCommand c s = .next (s.finish [] .illegal) := by
  simp [runCommand, h, raiseStatus]

/-- With the buffer exclusive, or for a construction, the command port executes the command. -/
theorem runCommand_of_instr {c : Command} {s : State} {i : Instr} (h : decode s.cfg c = .instr i)
    (hx : s.shared = false ∨ constructs i.form = true) : runCommand c s = exec i s := by
  rcases hx with hx | hx <;> simp [runCommand, h, hx]

theorem runCommand_of_shared {c : Command} {s : State} {i : Instr} (h : decode s.cfg c = .instr i)
    (hs : s.shared = true) (hc : constructs i.form = false) :
    runCommand c s = .refused .sharedBuffer := by
  simp [runCommand, h, hs, hc]

/-- Where the command port answers, it has rejected a reserved opcode or executed the decoded command. -/
theorem runCommand_next {c : Command} {s t : State} (h : runCommand c s = .next t) :
    t = s.finish [] .illegal ∨ ∃ i, decode s.cfg c = .instr i ∧ exec i s = .next t := by
  cases hd : decode s.cfg c with
  | reserved op =>
    rw [runCommand_of_reserved hd] at h
    exact .inl (Host.Outcome.next.inj h).symm
  | instr i =>
    by_cases hx : s.shared = false ∨ constructs i.form = true
    · rw [runCommand_of_instr hd hx] at h
      exact .inr ⟨i, rfl, h⟩
    · obtain ⟨hs, hc⟩ := not_or.mp hx
      rw [runCommand_of_shared hd (by simpa using hs) (by simpa using hc)] at h
      cases h

/-- The state after a reset during a command, where the command port would have answered (R541). -/
theorem abortCommand_next {c : Command} {s u : State} (h : abortCommand c s = .next u) :
    ∃ t, runCommand c s = .next t ∧
      u = { (s.resetEngine).withMem (tornLanes s.aborts s.mem t.port.addr 0 t.port.lanes) with
        aborts := s.aborts + 1 } := by
  unfold abortCommand at h
  split at h
  next t ht => exact ⟨t, ht, (Host.Outcome.next.inj h).symm⟩
  next => cases h
  next => cases h

/-- The next state of a command: an error's, which changes nothing, or the success of its form. -/
theorem exec_next {i : Instr} {s t : State} (h : exec i s = .next t) :
    t = s.finish [] .illegal ∨ t = s.finish [] .outOfRange ∨
      (expectedStatus s i.form = .ok ∧ t = afterOk i.form s) := by
  rcases exec_cases i s with ⟨-, e⟩ | ⟨-, e⟩ | ⟨hok, e⟩
  all_goals obtain rfl := Host.Outcome.next.inj (e.symm.trans h)
  · exact .inl rfl
  · exact .inr (.inl rfl)
  · exact .inr (.inr ⟨hok, rfl⟩)

/-- Only an accepted command that keeps its contract and passes the range check succeeds (R98, R505). -/
theorem expectedStatus_eq_ok_iff {s : State} {f : Form} :
    expectedStatus s f = .ok ↔
      accepted f s.mode = true ∧ contractKept f = true ∧ inRange s f = true := by
  unfold expectedStatus
  split_ifs <;> simp_all

/-! ### What keeps the invariant -/

theorem State.Inv.mem_wf {s : State} (hi : s.Inv) : s.mem.wf = true := by
  obtain ⟨-, -, -, hmem, -, -⟩ := hi
  exact hmem

/-- A command's end keeps the invariant when the lanes it drives obey the rules of the port. -/
theorem State.Inv.finish {s : State} {ls : List Lane} (hi : s.Inv) (r : Response)
    (hnine : ls.length ≤ 9)
    (hinside : ∀ j, ls.getD j Lane.idle ≠ Lane.idle → s.byteIdx + j < s.lenBytes)
    (hread : s.mode = .read → ∀ j, (ls.getD j Lane.idle).wdata = none)
    (hunbound : s.mode = .unbound → ∀ j, ls.getD j Lane.idle = Lane.idle) :
    (s.finish ls r).Inv := by
  obtain ⟨hlegal, hpos, hlen, hmem, -, hshared⟩ := hi
  have hlane : ∀ j, (s.finish ls r).lane j = ls.getD j Lane.idle := drive_lane s.byteIdx ls
  refine ⟨hlegal, hpos, hlen, hmem, ⟨drive_length _ hnine, ?_, ?_, ?_⟩, hshared⟩
  · intro j hj
    exact hinside j (hlane j ▸ hj)
  · intro hm j
    rw [hlane]
    exact hread hm j
  · intro hm j
    rw [hlane]
    exact hunbound hm j

theorem State.Inv.finish_idle {s : State} (hi : s.Inv) (r : Response) : (s.finish [] r).Inv :=
  hi.finish r (by simp) (by simp) (by simp [Lane.idle]) (by simp)

/-- A read drives touched lanes only, and none of them writes (R52, R60, R73). -/
theorem State.Inv.finish_readLanes {s : State} {k : Nat} (hi : s.Inv) (r : Response)
    (hm : s.mode = .read) (hnine : k ≤ 9) (hk : s.byteIdx + k ≤ s.lenBytes) :
    (s.finish (readLanes (s.mem.bytesFrom s.byteIdx k)) r).Inv := by
  refine hi.finish r (by rwa [readLanes_length]) ?_ ?_ (by simp [hm])
  · intro j hj
    rw [readLanes_getD] at hj
    have hjk : j < k := by
      by_contra hge
      exact hj (if_neg hge)
    omega
  · intro _ j
    rw [readLanes_getD]
    split <;> rfl

/-- A write drives touched lanes only (R52, R60). -/
theorem State.Inv.finish_writeLanes {s : State} {n : Nat} (hi : s.Inv) (v : Data) (r : Response)
    (hm : s.mode = .write) (hnine : touched s.bitIdx.toNat n ≤ 9)
    (hk : s.byteIdx + touched s.bitIdx.toNat n ≤ s.lenBytes) :
    (s.finish (writeLanes s.mem s.byteIdx s.bitIdx.toNat n v) r).Inv := by
  refine hi.finish r (by rwa [writeLanes_length]) ?_ (by simp [hm]) (by simp [hm])
  intro j hj
  rw [writeLanes_getD] at hj
  have hjk : j < touched s.bitIdx.toNat n := by
    by_contra hge
    exact hj (if_neg hge)
  omega

/-- An advance within `REMAINING` keeps the position within the buffer (R26). -/
theorem State.Inv.advance {s : State} {n : Nat} (hi : s.Inv) (h : n ≤ s.remaining) :
    (s.advance n).Inv := by
  obtain ⟨hlegal, hpos, hlen, hmem, hport, hshared⟩ := hi
  refine ⟨hlegal, ?_, hlen, hmem, hport, hshared⟩
  rw [advance_pos, advance_lenBits]
  simp only [State.remaining] at h
  omega

theorem State.Inv.withMem {s : State} {m : Memory} (hi : s.Inv) (hm : m.wf = true) :
    (s.withMem m).Inv := by
  obtain ⟨hlegal, hpos, hlen, -, hport, hshared⟩ := hi
  exact ⟨hlegal, hpos, hlen, hm, hport, hshared⟩

/-- An idle port keeps its rules in every mode and over every buffer. -/
theorem portOk_of_idle {s : State} {b : Nat} (h : s.port = MemPort.drive b []) : s.PortOk := by
  have hidle : ∀ j, s.lane j = Lane.idle := fun j => by
    rw [State.lane, h]
    exact drive_lane b [] j
  refine ⟨?_, fun j hj => absurd (hidle j) hj, fun _ j => ?_, fun _ => hidle⟩
  · rw [h]
    exact drive_length b (by simp)
  · rw [hidle]; rfl

/-- A construction within its range binds a cursor inside its buffer (R26, R130, R131). -/
theorem State.Inv.construct {s : State} {len off : Nat} (hi : s.Inv) (md : Mode) (r : Response)
    (hlen : len < 2 ^ s.cfg.aw) (hoff : off ≤ 8 * len) :
    ((s.finish [] r).bind md len off).Inv := by
  obtain ⟨hlegal, -, -, hmem, -, -⟩ := hi
  refine ⟨hlegal, ?_, hlen, hmem, portOk_of_idle rfl, fun _ => rfl⟩
  rw [bind_pos]
  exact hoff

theorem State.Inv.resetEngine {s : State} (hi : s.Inv) : s.resetEngine.Inv := by
  obtain ⟨hlegal, -, -, hmem, -, -⟩ := hi
  exact ⟨hlegal, Nat.le_refl 0, Nat.two_pow_pos _, hmem, portOk_of_idle rfl, fun _ => rfl⟩

theorem inv_afterRead {s : State} {n : Nat} (hi : s.Inv) (hm : s.mode = .read)
    (h1 : 1 ≤ n) (h64 : n ≤ 64) (hr : n ≤ s.remaining) : (afterRead n s).Inv :=
  (hi.finish_readLanes _ hm (touched_le_nine s.bitIdx.isLt h64) (touched_inside h1 hr)).advance hr

theorem inv_afterWrite {s : State} {n : Nat} (hi : s.Inv) (v : Data) (hm : s.mode = .write)
    (h1 : 1 ≤ n) (h64 : n ≤ 64) (hr : n ≤ s.remaining) : (afterWrite v n s).Inv := by
  have hfin := hi.finish_writeLanes v (.ok none) hm (touched_le_nine s.bitIdx.isLt h64)
    (touched_inside h1 hr)
  exact (hfin.withMem (wf_storeLanes _ _ hi.mem_wf)).advance hr

/-- The state after a successful command meets the invariant: its range check and its widths are what
keeps the position and the lanes inside the buffer, its bus what bounds the length. -/
theorem inv_afterOk {s : State} {f : Form} (hi : s.Inv) (hw : f.wellFormed s.cfg = true)
    (hwidth : Laws.formWidthsLegal f = true) (hok : expectedStatus s f = .ok) :
    (afterOk f s).Inv := by
  obtain ⟨hacc, hcontract, hrange⟩ := expectedStatus_eq_ok_iff.mp hok
  cases f with
  | read n =>
    simp only [Laws.formWidthsLegal, accepted, inRange, Bool.and_eq_true, beq_iff_eq,
      decide_eq_true_eq] at hwidth hacc hrange
    exact inv_afterRead hi hacc hwidth.1 hwidth.2 hrange
  | write n v =>
    simp only [Laws.formWidthsLegal, accepted, inRange, Bool.and_eq_true, beq_iff_eq,
      decide_eq_true_eq] at hwidth hacc hrange
    exact inv_afterWrite hi v hacc hwidth.1 hwidth.2 hrange
  | readUpTo w n =>
    simp only [Laws.formWidthsLegal, accepted, contractKept, inRange, Bool.and_eq_true,
      Bool.or_eq_true, beq_iff_eq, decide_eq_true_eq] at hwidth hacc hcontract hrange
    exact inv_afterRead hi hacc hcontract.1 (by omega) hrange
  | writeUpTo w v n =>
    simp only [Laws.formWidthsLegal, accepted, contractKept, inRange, Bool.and_eq_true,
      Bool.or_eq_true, beq_iff_eq, decide_eq_true_eq] at hwidth hacc hcontract hrange
    exact inv_afterWrite hi v hacc hcontract.1 (by omega) hrange
  | skip n => exact (hi.finish_idle _).advance (of_decide_eq_true hrange)
  | advanceBits c => exact (hi.finish_idle _).advance (of_decide_eq_true hrange)
  | skipBits c => exact (hi.finish_idle _).advance (of_decide_eq_true hrange)
  | newRead len off =>
    simp only [Form.wellFormed, Bool.and_eq_true, decide_eq_true_eq] at hw
    exact hi.construct .read _ hw.1 (of_decide_eq_true hrange)
  | newWrite len off =>
    simp only [Form.wellFormed, Bool.and_eq_true, decide_eq_true_eq] at hw
    exact hi.construct .write _ hw.1 (of_decide_eq_true hrange)
  | getPos => exact hi.finish_idle _
  | getRemaining => exact hi.finish_idle _

theorem inv_of_exec {i : Instr} {s t : State} (hi : s.Inv) (hw : i.form.wellFormed s.cfg = true)
    (h : exec i s = .next t) : t.Inv := by
  rcases exec_next h with rfl | rfl | ⟨hok, rfl⟩
  · exact hi.finish_idle _
  · exact hi.finish_idle _
  · exact inv_afterOk hi hw (form_widthsLegal i) hok

theorem inv_of_runCommand {c : Command} {s t : State} (hi : s.Inv)
    (h : runCommand c s = .next t) : t.Inv := by
  rcases runCommand_next h with rfl | ⟨i, hd, he⟩
  · exact hi.finish_idle _
  · exact inv_of_exec hi (decode_wellFormed hd) he

theorem inv_of_abortCommand {c : Command} {s u : State} (hi : s.Inv)
    (h : abortCommand c s = .next u) : u.Inv := by
  obtain ⟨t, -, rfl⟩ := abortCommand_next h
  exact hi.resetEngine.withMem (wf_tornLanes _ _ _ _ hi.mem_wf)

/-- In UNBOUND no buffer is the engine's, so that no host access breaks exclusion (R68, R547). -/
theorem breaksExclusion_unbound {s : State} (h : s.mode = .unbound) (a : Nat) (w : Bool) :
    breaksExclusion s a w = false := by
  simp [breaksExclusion, h]

theorem inv_hostWrite {s : State} (hi : s.Inv) (a : Nat) (v : Byte) :
    (hostWrite a v s).Inv := by
  obtain ⟨hlegal, hpos, hlen, hmem, hport, hshared⟩ := hi
  refine ⟨hlegal, hpos, hlen, wf_store a v hmem, hport, fun hm => ?_⟩
  rw [hostWrite_shared, hshared hm, breaksExclusion_unbound (s := s) hm]; rfl

theorem inv_hostRead {s : State} (hi : s.Inv) (a : Nat) : (hostRead a s).Inv := by
  obtain ⟨hlegal, hpos, hlen, hmem, hport, hshared⟩ := hi
  refine ⟨hlegal, hpos, hlen, hmem, hport, fun hm => ?_⟩
  rw [hostRead_shared, hshared hm, breaksExclusion_unbound (s := s) hm]; rfl

/-- Every host input keeps the invariant. -/
theorem inv_of_accept {e : HostInput} {s t : State} (hi : s.Inv) (h : accept e s = .next t) :
    t.Inv := by
  cases e with
  | command c => exact inv_of_runCommand hi h
  | resetDuring c => exact inv_of_abortCommand hi h
  | reset => obtain rfl := Host.Outcome.next.inj h; exact hi.resetEngine
  | bufferWrite a v => obtain rfl := Host.Outcome.next.inj h; exact inv_hostWrite hi a v
  | bufferRead a => obtain rfl := Host.Outcome.next.inj h; exact inv_hostRead hi a

/-- Taking an input off touches no field that the invariant speaks of. -/
theorem State.Inv.withInputs {s : State} (hi : s.Inv) (es : List HostInput) :
    (s.withInputs es).Inv := hi

/-! ### The obligations -/

/-- Settles O44: by the cases of the host's next input, each of which keeps the invariant. -/
theorem stepKeepsInv : Obligations.StepKeepsInv := by
  intro s t hi h
  cases hin : s.inputs with
  | nil =>
    rw [step_of_no_input hin] at h
    exact Host.Outcome.next.inj h ▸ hi
  | cons e rest =>
    rw [step_of_input hin] at h
    exact inv_of_accept (hi.withInputs rest) h

/-- The success of a command other than a construction leaves `LEN_BYTES` and `MODE` (R25). -/
theorem afterOk_lenBytes_mode {f : Form} (s : State) (h : constructs f = false) :
    (afterOk f s).lenBytes = s.lenBytes ∧ (afterOk f s).mode = s.mode := by
  cases f with
  | newRead len off => cases h
  | newWrite len off => cases h
  | read n => exact ⟨rfl, rfl⟩
  | write n v => exact ⟨rfl, rfl⟩
  | skip n => exact ⟨rfl, rfl⟩
  | getPos => exact ⟨rfl, rfl⟩
  | getRemaining => exact ⟨rfl, rfl⟩
  | advanceBits c => exact ⟨rfl, rfl⟩
  | skipBits c => exact ⟨rfl, rfl⟩
  | readUpTo w n => exact ⟨rfl, rfl⟩
  | writeUpTo w v n => exact ⟨rfl, rfl⟩

/-- Settles O32: an error changes no register, and a success is `afterOk_lenBytes_mode`. -/
theorem onlyConstructionWritesModeAndLength :
    Obligations.OnlyConstructionWritesModeAndLength := by
  intro i s t h hc
  rcases exec_next h with rfl | rfl | ⟨-, rfl⟩
  · exact ⟨rfl, rfl⟩
  · exact ⟨rfl, rfl⟩
  · exact afterOk_lenBytes_mode s hc

/-- Settles O34: the step hands the command to the port, and the port executes it; `withFetchWord` puts
the word's record first and leaves the buffer exclusive. -/
theorem stepRunsDecodedCommand : Obligations.StepRunsDecodedCommand := by
  constructor
  · intro s c rest i hin hd hx
    rw [step_of_input hin]
    exact runCommand_of_instr (s := s.withInputs rest) hd hx
  · intro s nbits w i hd
    rw [step_of_input (s := s.withFetchWord nbits w) rfl]
    exact runCommand_of_instr hd (.inl rfl)

/-- Settles O43: the registers are 0, the default `AW` is legal and the port is idle. -/
theorem invAtReset : Obligations.InvAtReset :=
  ⟨by decide, Nat.le_refl 0, Nat.two_pow_pos _, rfl, portOk_of_idle rfl, fun _ => rfl⟩

end Sys2Proof.Machine

/-! PROOFS. The buffer and its memory port: what a command that succeeds does to the lanes and to the
bytes, when a step answers, and what the host's own accesses do; and the statements about the memory:
`AlignedFieldsAreLittleEndian`, `LaneMaskProperties`, `OnlyWriteModeWrites`, `StepsNeverFault`,
`HostAccessesTheBuffer`, `TouchedBytes`, `SharedBufferIsRefused`. -/

namespace Sys2Proof.Machine

/-! ### The lanes after each update -/

theorem finish_lane (s : State) (ls : List Lane) (r : Response) (j : Nat) :
    (s.finish ls r).lane j = ls.getD j Lane.idle :=
  drive_lane s.byteIdx ls j

@[simp] theorem finish_nil_lane (s : State) (r : Response) (j : Nat) :
    (s.finish [] r).lane j = Lane.idle :=
  finish_lane s [] r j

@[simp] theorem advance_lane (s : State) (n j : Nat) : (s.advance n).lane j = s.lane j := rfl

@[simp] theorem bind_lane (s : State) (md : Mode) (len off j : Nat) :
    (s.bind md len off).lane j = s.lane j := rfl

@[simp] theorem idle_wdata : Lane.idle.wdata = none := rfl

theorem afterRead_mem (n : Nat) (s : State) : (afterRead n s).mem = s.mem := rfl

/-- A read writes on no lane (R60). -/
theorem afterRead_lane_wdata (n : Nat) (s : State) (j : Nat) :
    ((afterRead n s).lane j).wdata = none := by
  simp only [afterRead, advance_lane, finish_lane, readLanes_getD]
  split <;> rfl

/-! ### Success, by the field a form reads or writes -/

theorem afterOk_of_readWidth {f : Form} {n : Nat} (s : State) (h : readWidth f = some n) :
    afterOk f s = afterRead n s := by
  cases f <;> cases h <;> rfl

theorem afterOk_of_writeWidth {f : Form} {n : Nat} {v : Data} (s : State)
    (h : writeWidth f = some (n, v)) : afterOk f s = afterWrite v n s := by
  cases f <;> cases h <;> rfl

/-- Reads are accepted in READ only (R97). -/
theorem accepted_of_readWidth {f : Form} {n : Nat} (m : Mode) (h : readWidth f = some n) :
    accepted f m = (m == .read) := by
  cases f <;> cases h <;> rfl

/-- Writes are accepted in WRITE only (R97). -/
theorem accepted_of_writeWidth {f : Form} {n : Nat} {v : Data} (m : Mode)
    (h : writeWidth f = some (n, v)) : accepted f m = (m == .write) := by
  cases f <;> cases h <;> rfl

/-- A command that neither reads nor writes a field leaves the buffer and every lane alone. -/
theorem afterOk_of_no_field {f : Form} (s : State) (hr : readWidth f = none)
    (hw : writeWidth f = none) :
    (afterOk f s).mem = s.mem ∧ ∀ j, (afterOk f s).lane j = Lane.idle := by
  cases f with
  | read n => cases hr
  | readUpTo w n => cases hr
  | write n v => cases hw
  | writeUpTo w v n => cases hw
  | skip n => exact ⟨rfl, finish_nil_lane s (.ok none)⟩
  | advanceBits c => exact ⟨rfl, finish_nil_lane s (.ok none)⟩
  | skipBits c => exact ⟨rfl, finish_nil_lane s (.ok none)⟩
  | newRead len off => exact ⟨rfl, finish_nil_lane s (.ok none)⟩
  | newWrite len off => exact ⟨rfl, finish_nil_lane s (.ok none)⟩
  | getPos => exact ⟨rfl, finish_nil_lane s (.ok (some (BitVec.ofNat 64 s.pos)))⟩
  | getRemaining => exact ⟨rfl, finish_nil_lane s (.ok (some (BitVec.ofNat 64 s.remaining)))⟩

/-- A read whose contract is kept has at most 64 bits (R4, R98). -/
theorem readWidth_le {f : Form} {n : Nat} (h : readWidth f = some n)
    (hlegal : Laws.formWidthsLegal f = true) (hcontract : contractKept f = true) : n ≤ 64 := by
  cases f with
  | read m =>
    cases h
    simp only [Laws.formWidthsLegal, Bool.and_eq_true, decide_eq_true_eq] at hlegal
    exact hlegal.2
  | readUpTo w m =>
    cases h
    simp only [Laws.formWidthsLegal, contractKept, Bool.and_eq_true, Bool.or_eq_true, beq_iff_eq,
      decide_eq_true_eq] at hlegal hcontract
    omega
  | _ => cases h

/-- The response `OK` is given by a success only (R505). -/
theorem exec_ok {i : Instr} {s t : State} {d : Option Data} (h : exec i s = .next t)
    (hr : t.response = some (.ok d)) : expectedStatus s i.form = .ok ∧ t = afterOk i.form s := by
  rcases exec_next h with rfl | rfl | hok
  · cases hr
  · cases hr
  · exact hok

/-! ### Bytes and absolute bits -/

/-- Bit `t` of byte `a` is absolute bit `8a + t` (R56). -/
theorem byteAt_getLsbD (m : Memory) (a : Nat) {t : Nat} (ht : t < 8) :
    (m.byteAt a).getLsbD t = bitAt m (8 * a + t) := by
  rw [bitAt, show (8 * a + t) / 8 = a by omega, show (8 * a + t) % 8 = t by omega]

/-- Byte `k` of an aligned field in the buffer after its write is byte `k` of the value (R57). -/
theorem written_byteAt_aligned (m : Memory) (b : Nat) {n k : Nat} (v : Data)
    (hk : 8 * k + 8 ≤ n) :
    (m.storeLanes b (writeLanes m b 0 n v)).byteAt (b + k) = v.extractLsb' (8 * k) 8 := by
  apply BitVec.eq_of_getLsbD_eq
  intro t ht
  rw [byteAt_getLsbD _ _ ht, written_bitAt _ _ _ _ _ _ (by omega), if_pos (by omega),
    BitVec.getLsbD_extractLsb', show 8 * (b + k) + t - (8 * b + 0) = 8 * k + t by omega]
  simp [ht]

/-- Byte `k` of the value read from an aligned field is byte `k` of the field (R57). -/
theorem readData_extract_aligned (m : Memory) (b : Nat) {n k : Nat} (hk : 8 * k + 8 ≤ n)
    (hn : n ≤ 64) :
    (extractField 0 n (window (m.bytesFrom b (touched 0 n)))).extractLsb' (8 * k) 8 =
      m.byteAt (b + k) := by
  apply BitVec.eq_of_getLsbD_eq
  intro t ht
  have h64 : 8 * k + t < 64 := by omega
  have hfield : 8 * k + t < n := by omega
  rw [BitVec.getLsbD_extractLsb', readData_getLsbD, byteAt_getLsbD _ _ ht,
    show 8 * b + 0 + (8 * k + t) = 8 * (b + k) + t by omega]
  simp [ht, h64, hfield]

/-! ### The lane mask (R75) -/

/-- The lane mask equals the low byte of a number with the same bits. -/
theorem laneMask_eq_ofNat {o n j x : Nat}
    (h : ∀ t, t < 8 → x.testBit t = decide (o ≤ 8 * j + t ∧ 8 * j + t < o + n)) :
    laneMask o n j = BitVec.ofNat 8 x := by
  apply BitVec.eq_of_getLsbD_eq
  intro t ht
  rw [laneMask_getLsbD, BitVec.getLsbD_ofNat, h t ht]
  simp [ht]

/-- R75 (a): a lane holds a bit of the field exactly when its byte is touched. The bit is the field's
first one in lane 0 and bit 0 of the byte in every later lane. -/
theorem laneMask_ne_zero_iff {o n j : Nat} (ho : o < 8) (hn : 1 ≤ n) :
    laneMask o n j ≠ 0 ↔ j < touched o n := by
  rw [lt_touched_iff]
  constructor
  · intro hne
    by_contra hge
    apply hne
    apply BitVec.eq_of_getLsbD_eq
    intro t ht
    have hout : ¬ 8 * j + t < o + n := by omega
    simp [laneMask_getLsbD, hout]
  · intro hlt hzero
    have hbit : (laneMask o n j).getLsbD (o - 8 * j) = true := by
      simp only [laneMask_getLsbD, Bool.and_eq_true, decide_eq_true_eq]
      omega
    rw [hzero] at hbit
    simp at hbit

/-- R75 (b): a byte strictly between the first and the last touched ones belongs to the field whole. -/
theorem laneMask_middle {o n j : Nat} (ho : o < 8) (h0 : 0 < j) (hj : j + 1 < touched o n) :
    laneMask o n j = 0xFF := by
  rw [lt_touched_iff] at hj
  refine laneMask_eq_ofNat (x := mask 8) fun t ht => ?_
  rw [mask_testBit]
  exact decide_eq_decide.mpr (by omega)

/-- R75 (c), the first byte of several: the field has its bits from `o` up. -/
theorem laneMask_first {o n : Nat} (hk : 1 < touched o n) :
    laneMask o n 0 = BitVec.ofNat 8 (0xFF <<< o) := by
  rw [lt_touched_iff] at hk
  refine laneMask_eq_ofNat fun t ht => ?_
  rw [Nat.testBit_shiftLeft, show (0xFF : Nat) = mask 8 from rfl, mask_testBit, ← Bool.decide_and]
  exact decide_eq_decide.mpr (by omega)

/-- R75 (c), the only byte: the whole field, shifted in place. -/
theorem laneMask_only (o n : Nat) : laneMask o n 0 = BitVec.ofNat 8 (mask n <<< o) := rfl

/-- R75 (d), the last byte of several: the field has its low bits, up to the field's end. -/
theorem laneMask_last {o n : Nat} (ho : o < 8) (hk : 1 < touched o n) :
    laneMask o n (touched o n - 1) = BitVec.ofNat 8 (mask ((o + n - 1) % 8 + 1)) := by
  refine laneMask_eq_ofNat fun t ht => ?_
  rw [mask_testBit]
  refine decide_eq_decide.mpr ?_
  simp only [touched] at hk ⊢
  omega

/-! ### When a step answers -/

/-- No command stops the machine: it answers a next state, whatever the state (R54, R553). -/
theorem exec_answers (i : Instr) (s : State) : ∃ t, exec i s = .next t := by
  rcases exec_cases i s with ⟨-, e⟩ | ⟨-, e⟩ | ⟨-, e⟩ <;> exact ⟨_, e⟩

/-- The outcome is a next state, or the refusal of a cursor over a shared buffer (R68, U3). -/
def AnswersOrShared (s : State) (r : Result) : Prop :=
  (∃ t, r = .next t) ∨ (r = .refused .sharedBuffer ∧ s.shared = true)

theorem runCommand_answersOrShared (c : Command) (s : State) :
    AnswersOrShared s (runCommand c s) := by
  cases hd : decode s.cfg c with
  | reserved op => exact .inl ⟨_, runCommand_of_reserved hd⟩
  | instr i =>
    by_cases hx : s.shared = false ∨ constructs i.form = true
    · rw [runCommand_of_instr hd hx]
      exact .inl (exec_answers i s)
    · obtain ⟨hs, hc⟩ := not_or.mp hx
      rw [Bool.not_eq_false] at hs
      rw [Bool.not_eq_true] at hc
      exact .inr ⟨runCommand_of_shared hd hs hc, hs⟩

theorem abortCommand_answersOrShared (c : Command) (s : State) :
    AnswersOrShared s (abortCommand c s) := by
  rcases runCommand_answersOrShared c s with ⟨t, ht⟩ | ⟨hr, hs⟩
  · exact .inl ⟨_, by rw [abortCommand, ht]⟩
  · exact .inr ⟨by rw [abortCommand, hr], hs⟩

theorem accept_answersOrShared (e : HostInput) (s : State) : AnswersOrShared s (accept e s) := by
  cases e with
  | command c => exact runCommand_answersOrShared c s
  | resetDuring c => exact abortCommand_answersOrShared c s
  | reset => exact .inl ⟨_, rfl⟩
  | bufferWrite a v => exact .inl ⟨_, rfl⟩
  | bufferRead a => exact .inl ⟨_, rfl⟩

theorem step_answersOrShared (s : State) : AnswersOrShared s (step s) := by
  cases hin : s.inputs with
  | nil => exact .inl ⟨s, step_of_no_input hin⟩
  | cons e rest =>
    rw [step_of_input hin]
    exact accept_answersOrShared e (s.withInputs rest)

/-! ### The host's accesses and the mark of broken exclusivity -/

/-- A host write disturbs every cursor whose buffer holds the byte (R547, R548). -/
theorem breaksExclusion_write_iff {s : State} {a : Nat} :
    breaksExclusion s a true = true ↔ s.mode ≠ .unbound ∧ a < s.lenBytes := by
  cases hm : s.mode <;> simp [breaksExclusion, hm]

/-- A host read disturbs a write cursor only (R547, R548). -/
theorem breaksExclusion_read_iff {s : State} {a : Nat} :
    breaksExclusion s a false = true ↔ s.mode = .write ∧ a < s.lenBytes := by
  cases hm : s.mode <;> simp [breaksExclusion, hm]

theorem byteAt_store (m : Memory) (a b : Nat) (v : Byte) :
    (m.store a v).byteAt b = if b = a then v else m.byteAt b := by
  split
  next h => rw [h, byteAt_store_same]
  next h => exact byteAt_store_other m v h

/-- A new cursor starts with exclusive access (R547). -/
theorem afterOk_shared_of_constructs {f : Form} (s : State) (h : constructs f = true) :
    (afterOk f s).shared = false := by
  cases f with
  | newRead len off => rfl
  | newWrite len off => rfl
  | _ => cases h

/-! ### The obligations -/

/-- Settles O24: a success leaves `afterWrite` or `afterRead`, whose bytes at `BIT_IDX = 0` are
`written_byteAt_aligned` and `readData_extract_aligned`. -/
theorem alignedFieldsAreLittleEndian : Obligations.AlignedFieldsAreLittleEndian := by
  intro i m v d s t hbit h
  constructor
  · intro hw hr k hk
    obtain ⟨-, rfl⟩ := exec_ok h hr
    rw [afterOk_of_writeWidth s hw]
    simp only [afterWrite, State.advance_mem, State.withMem_mem, hbit]
    exact written_byteAt_aligned s.mem s.byteIdx v (by omega)
  · intro hw hr k hk
    obtain ⟨hok, rfl⟩ := exec_ok h hr
    obtain ⟨-, hcontract, -⟩ := expectedStatus_eq_ok_iff.mp hok
    have h64 := readWidth_le hw (form_widthsLegal i) hcontract
    rw [afterOk_of_readWidth s hw] at hr
    simp only [afterRead, State.advance_response, State.finish_response, hbit,
      Option.some.injEq, Response.ok.injEq] at hr
    rw [← hr]
    exact readData_extract_aligned s.mem s.byteIdx (by omega) h64

/-- Settles O25: one lemma for each of R75 (a) to (d). -/
theorem laneMaskProperties : Obligations.LaneMaskProperties := by
  intro o n j ho h1 _ _
  exact ⟨laneMask_ne_zero_iff ho h1, laneMask_middle ho, laneMask_first,
    fun _ => laneMask_only o n, laneMask_last ho⟩

/-- Settles O33: an error drives no lane; a success that reads is in READ and writes on no lane, one that
writes is in WRITE, and any other drives no lane. -/
theorem onlyWriteModeWrites : Obligations.OnlyWriteModeWrites := by
  intro i s t h
  rcases exec_next h with rfl | rfl | ⟨hok, rfl⟩
  · exact ⟨fun _ => ⟨rfl, by simp⟩, fun _ => finish_nil_lane s _⟩
  · exact ⟨fun _ => ⟨rfl, by simp⟩, fun _ => finish_nil_lane s _⟩
  · obtain ⟨hacc, -, -⟩ := expectedStatus_eq_ok_iff.mp hok
    cases hr : readWidth i.form with
    | some n =>
      rw [accepted_of_readWidth _ hr, beq_iff_eq] at hacc
      rw [afterOk_of_readWidth s hr]
      exact ⟨fun _ => ⟨afterRead_mem n s, afterRead_lane_wdata n s⟩, by simp [hacc]⟩
    | none =>
      cases hw : writeWidth i.form with
      | some p =>
        rw [accepted_of_writeWidth _ hw, beq_iff_eq] at hacc
        simp [hacc]
      | none =>
        obtain ⟨hmem, hidle⟩ := afterOk_of_no_field s hr hw
        exact ⟨fun _ => ⟨hmem, by simp [hidle]⟩, fun _ => hidle⟩

/-- Settles O38: a step answers, or is the one refusal (`step_answersOrShared`). -/
theorem stepsNeverFault : Obligations.StepsNeverFault := by
  intro s
  rcases step_answersOrShared s with ⟨t, ht⟩ | ⟨hr, hs⟩
  · simp [ht]
  · simp [hr, hs, eq_comm]

/-- Settles O41: the host's access is one store or one `byteAt` of the buffer, and the mark is what
`breaksExclusion` says. -/
theorem hostAccessesTheBuffer : Obligations.HostAccessesTheBuffer := by
  intro s a v rest
  constructor
  · intro hin
    refine ⟨hostWrite a v (s.withInputs rest), step_of_input hin, fun b => byteAt_store s.mem a b v,
      rfl, rfl, rfl, rfl, rfl, ?_⟩
    rw [hostWrite_shared, Bool.or_eq_true, breaksExclusion_write_iff]
    rfl
  · intro hin
    refine ⟨hostRead a (s.withInputs rest), step_of_input hin, rfl, rfl, rfl, rfl, rfl, rfl, rfl, ?_⟩
    rw [hostRead_shared, Bool.or_eq_true, breaksExclusion_read_iff]
    rfl

/-- Settles O26: the bound is arithmetic on `K(o, n)`, as each `W` is a multiple of 8; the touched bytes
are inside the buffer by `touched_inside`. -/
theorem touchedBytes : Obligations.TouchedBytes := by
  constructor
  · intro o n w ho h1 hn hw
    have hdvd : w % 8 = 0 := by omega
    simp only [touched]
    omega
  · intro s n a h1 hn ⟨_, hlt⟩
    exact hlt.trans_le (touched_inside h1 hn)

/-- Settles O42: the command port refuses the use of the old cursor, and a construction is executed; where
it succeeds the new cursor is exclusive. -/
theorem sharedBufferIsRefused : Obligations.SharedBufferIsRefused := by
  intro s c rest i hin hs hd
  rw [step_of_input hin]
  constructor
  · intro hc
    exact runCommand_of_shared (s := s.withInputs rest) hd hs hc
  · intro hc
    obtain ⟨t, ht⟩ := exec_answers i (s.withInputs rest)
    refine ⟨t, (runCommand_of_instr (s := s.withInputs rest) hd (.inr hc)).trans ht, fun hr => ?_⟩
    obtain ⟨-, rfl⟩ := exec_ok ht hr
    exact afterOk_shared_of_constructs _ hc

end Sys2Proof.Machine

/-! PROOFS. The encoding, through one relation: a command record carries a form when its `OP` is the form's
opcode and the buses that the form uses hold its operands (R90, R94, R95). The decoder answers a command
exactly when the record carries that command's form (`decode_eq_instr_iff`), and the statements about
encoding are read off: `DecodeEncodeRoundTrip`, `PackedWordRoundTrip`, `OpcodeMap`, `UnusedFieldsIgnored`,
`DecodedOperandsAreTheBuses`; and, at the command port, `ReservedOpcodesAreIllegal`,
`StatusIsFirstFailedCheck`, `WrongModeIsIllegal`, `StatusAndModeCodes`. -/

namespace Sys2Proof

open Machine (form_widthsLegal)

/-! ### Opcodes and commands by form -/

/-- The code `ww` of a primitive width, `W = 8 << ww` (R95). -/
def widthCode : Nat → Nat
  | 8 => 0
  | 16 => 1
  | 32 => 2
  | _ => 3

/-- The opcode map by rows (R95): the opcode of a form. -/
def Form.opcode : Form → Nat
  | .read n => n - 1
  | .write n _ => 0x40 + (n - 1)
  | .skip n => 0x80 + (n - 1)
  | .newRead _ _ => 0xC0
  | .newWrite _ _ => 0xC1
  | .getPos => 0xC2
  | .getRemaining => 0xC3
  | .advanceBits _ => 0xC4
  | .skipBits _ => 0xC5
  | .readUpTo w _ => 0xC8 + widthCode w
  | .writeUpTo w _ _ => 0xCC + widthCode w

theorem opcode_toNat (i : Instr) : i.opcode.toNat = i.form.opcode := by
  cases i <;> rfl

/-- The command of a form, where its width is one that a command has (R93, R94). -/
def Form.instr : Form → Option Instr
  | .read n => readTable[n - 1]?
  | .write n v => (writeTable[n - 1]?).map fun write => write v
  | .skip n => skipTable[n - 1]?
  | .newRead len off => some (.newRead len off)
  | .newWrite len off => some (.newWrite len off)
  | .getPos => some .getPos
  | .getRemaining => some .getRemaining
  | .advanceBits c => some (.advanceBits c)
  | .skipBits c => some (.skipBits c)
  | .readUpTo 8 n => some (.readUpToU8 n)
  | .readUpTo 16 n => some (.readUpToU16 n)
  | .readUpTo 32 n => some (.readUpToU32 n)
  | .readUpTo 64 n => some (.readUpToU64 n)
  | .writeUpTo 8 v n => some (.writeUpToU8 v n)
  | .writeUpTo 16 v n => some (.writeUpToU16 v n)
  | .writeUpTo 32 v n => some (.writeUpToU32 v n)
  | .writeUpTo 64 v n => some (.writeUpToU64 v n)
  | .readUpTo _ _ => none
  | .writeUpTo _ _ _ => none

/-- A command is determined by its form. -/
theorem form_instr (i : Instr) : i.form.instr = some i := by
  cases i <;> rfl

/-- The legal widths of a wrapper, as bounds (R4). -/
theorem wrapperWidth_iff {n : Nat} : (1 ≤ n && n ≤ 64) = true ↔ 1 ≤ n ∧ n ≤ 64 := by
  rw [Bool.and_eq_true, decide_eq_true_eq, decide_eq_true_eq]

/-- The legal widths of a primitive, as cases (R4). -/
theorem primitiveWidth_cases {w : Nat} (h : (w == 8 || w == 16 || w == 32 || w == 64) = true) :
    w = 8 ∨ w = 16 ∨ w = 32 ∨ w = 64 := by
  simpa [or_assoc] using h

/-- Every form with legal widths is the form of a command. -/
theorem exists_instr_of_widthsLegal {f : Form} (h : Laws.formWidthsLegal f = true) :
    ∃ i : Instr, i.form = f := by
  cases f with
  | read n =>
    obtain ⟨h1, h64⟩ := wrapperWidth_iff.mp h
    obtain ⟨i, -, hform⟩ := readTable_get (k := n - 1) (by omega)
    exact ⟨i, by rw [hform, Nat.sub_add_cancel h1]⟩
  | write n v =>
    obtain ⟨h1, h64⟩ := wrapperWidth_iff.mp h
    obtain ⟨write, -, hform⟩ := writeTable_get (k := n - 1) (by omega) v
    exact ⟨write v, by rw [hform, Nat.sub_add_cancel h1]⟩
  | skip n =>
    obtain ⟨h1, h64⟩ := wrapperWidth_iff.mp h
    obtain ⟨i, -, hform⟩ := skipTable_get (k := n - 1) (by omega)
    exact ⟨i, by rw [hform, Nat.sub_add_cancel h1]⟩
  | newRead len off => exact ⟨.newRead len off, rfl⟩
  | newWrite len off => exact ⟨.newWrite len off, rfl⟩
  | getPos => exact ⟨.getPos, rfl⟩
  | getRemaining => exact ⟨.getRemaining, rfl⟩
  | advanceBits c => exact ⟨.advanceBits c, rfl⟩
  | skipBits c => exact ⟨.skipBits c, rfl⟩
  | readUpTo w n =>
    obtain rfl | rfl | rfl | rfl := primitiveWidth_cases h
    · exact ⟨.readUpToU8 n, rfl⟩
    · exact ⟨.readUpToU16 n, rfl⟩
    · exact ⟨.readUpToU32 n, rfl⟩
    · exact ⟨.readUpToU64 n, rfl⟩
  | writeUpTo w v n =>
    obtain rfl | rfl | rfl | rfl := primitiveWidth_cases h
    · exact ⟨.writeUpToU8 v n, rfl⟩
    · exact ⟨.writeUpToU16 v n, rfl⟩
    · exact ⟨.writeUpToU32 v n, rfl⟩
    · exact ⟨.writeUpToU64 v n, rfl⟩

/-- The code of a primitive width has two bits (R95). -/
theorem widthCode_lt (w : Nat) : widthCode w < 4 := by
  unfold widthCode
  split <;> decide

/-- The opcodes of the map leave out C6, C7 and D0 to FF (R95). -/
theorem Form.opcode_range {f : Form} (h : Laws.formWidthsLegal f = true) :
    f.opcode < 0xC6 ∨ 0xC8 ≤ f.opcode ∧ f.opcode < 0xD0 := by
  cases f with
  | read n | write n v | skip n =>
    obtain ⟨h1, h64⟩ := wrapperWidth_iff.mp h
    simp only [Form.opcode]
    omega
  | readUpTo w n | writeUpTo w v n =>
    have := widthCode_lt w
    simp only [Form.opcode]
    omega
  | _ => simp [Form.opcode]

/-- The opcodes C6, C7 and D0 to FF, which R96 reserves. -/
def ReservedOp (op : BitVec 8) : Prop := op = 0xC6 ∨ op = 0xC7 ∨ 0xD0 ≤ op.toNat

/-- No command has a reserved opcode (R95, R96). -/
theorem opcode_not_reserved (i : Instr) : ¬ ReservedOp i.opcode := by
  have hrange := Form.opcode_range (form_widthsLegal i)
  simp only [ReservedOp, ← BitVec.toNat_inj, BitVec.reduceToNat, opcode_toNat]
  omega

/-! ### The form a record carries -/

/-- The record `c` carries the form: `OP` is its opcode, and each operand it has is the whole of its bus
(R90, R94, R95). The fields that the form does not use are free. -/
structure Form.CarriedBy (cfg : Config) (c : Command) (f : Form) : Prop where
  op : c.op.toNat = f.opcode
  arg : ∀ a, f.arg = some a → a = c.argBits cfg
  len : ∀ l, f.len = some l → l = c.lenBits cfg
  val : ∀ v, f.val = some v → v = c.val

theorem carriedBy_read (cfg : Config) {c : Command} {k : Nat} (h : c.op.toNat = k) :
    (Form.read (k + 1)).CarriedBy cfg c :=
  ⟨h, by simp [Form.arg], by simp [Form.len], by simp [Form.val]⟩

theorem carriedBy_write (cfg : Config) {c : Command} {k : Nat} (h : c.op.toNat = 0x40 + k) :
    (Form.write (k + 1) c.val).CarriedBy cfg c :=
  ⟨h, by simp [Form.arg], by simp [Form.len], by simp [Form.val]⟩

theorem carriedBy_skip (cfg : Config) {c : Command} {k : Nat} (h : c.op.toNat = 0x80 + k) :
    (Form.skip (k + 1)).CarriedBy cfg c :=
  ⟨h, by simp [Form.arg], by simp [Form.len], by simp [Form.val]⟩

/-! ### The decoder, class by class -/

theorem decodeOp_read (cfg : Config) {c : Command} {k : Nat} (hk : k < 64)
    (h : c.op.toNat = k) : decodeOp cfg c = readTable[k]? := by
  rw [decodeOp, show c.op.toNat / 64 = 0 by omega, show c.op.toNat % 64 = k by omega]; rfl

theorem decodeOp_write (cfg : Config) {c : Command} {k : Nat} (hk : k < 64)
    (h : c.op.toNat = 0x40 + k) :
    decodeOp cfg c = (writeTable[k]?).map fun write => write c.val := by
  rw [decodeOp, show c.op.toNat / 64 = 1 by omega, show c.op.toNat % 64 = k by omega]; rfl

theorem decodeOp_skip (cfg : Config) {c : Command} {k : Nat} (hk : k < 64)
    (h : c.op.toNat = 0x80 + k) : decodeOp cfg c = skipTable[k]? := by
  rw [decodeOp, show c.op.toNat / 64 = 2 by omega, show c.op.toNat % 64 = k by omega]; rfl

theorem decodeOp_class3 (cfg : Config) {c : Command} {k : Nat} (hk : k < 64)
    (h : c.op.toNat = 0xC0 + k) : decodeOp cfg c = decodeClass3 cfg c k := by
  rw [decodeOp, show c.op.toNat / 64 = 3 by omega, show c.op.toNat % 64 = k by omega]; rfl

/-- A record that carries a form decodes to the command of that form. -/
theorem decodeOp_of_carriedBy {cfg : Config} {c : Command} {f : Form}
    (h : f.CarriedBy cfg c) (hlegal : Laws.formWidthsLegal f = true) :
    decodeOp cfg c = f.instr := by
  obtain ⟨hop, harg, hlen, hval⟩ := h
  cases f with
  | read n =>
    obtain ⟨h1, h64⟩ := wrapperWidth_iff.mp hlegal
    rw [decodeOp_read cfg (k := n - 1) (by omega) hop]; rfl
  | write n v =>
    obtain ⟨h1, h64⟩ := wrapperWidth_iff.mp hlegal
    rw [decodeOp_write cfg (by omega) hop, hval v rfl]; rfl
  | skip n =>
    obtain ⟨h1, h64⟩ := wrapperWidth_iff.mp hlegal
    rw [decodeOp_skip cfg (by omega) hop]; rfl
  | newRead len off =>
    rw [decodeOp_class3 cfg (k := 0) (by omega) hop, hlen len rfl, harg off rfl]; rfl
  | newWrite len off =>
    rw [decodeOp_class3 cfg (k := 1) (by omega) hop, hlen len rfl, harg off rfl]; rfl
  | getPos => rw [decodeOp_class3 cfg (k := 2) (by omega) hop]; rfl
  | getRemaining => rw [decodeOp_class3 cfg (k := 3) (by omega) hop]; rfl
  | advanceBits n => rw [decodeOp_class3 cfg (k := 4) (by omega) hop, harg n rfl]; rfl
  | skipBits n => rw [decodeOp_class3 cfg (k := 5) (by omega) hop, harg n rfl]; rfl
  | readUpTo w n =>
    rw [harg n rfl]
    obtain rfl | rfl | rfl | rfl := primitiveWidth_cases hlegal
    · rw [decodeOp_class3 cfg (k := 8) (by omega) hop]; rfl
    · rw [decodeOp_class3 cfg (k := 9) (by omega) hop]; rfl
    · rw [decodeOp_class3 cfg (k := 10) (by omega) hop]; rfl
    · rw [decodeOp_class3 cfg (k := 11) (by omega) hop]; rfl
  | writeUpTo w v n =>
    rw [harg n rfl, hval v rfl]
    obtain rfl | rfl | rfl | rfl := primitiveWidth_cases hlegal
    · rw [decodeOp_class3 cfg (k := 12) (by omega) hop]; rfl
    · rw [decodeOp_class3 cfg (k := 13) (by omega) hop]; rfl
    · rw [decodeOp_class3 cfg (k := 14) (by omega) hop]; rfl
    · rw [decodeOp_class3 cfg (k := 15) (by omega) hop]; rfl

/-- Class `11`: the record carries the form of what the index decodes to. -/
theorem carriedBy_of_decodeClass3 {cfg : Config} {c : Command} {k : Nat} {i : Instr}
    (hop : c.op.toNat = 0xC0 + k) (h : decodeClass3 cfg c k = some i) : i.form.CarriedBy cfg c := by
  unfold decodeClass3 at h
  split at h <;> cases h
  all_goals exact ⟨hop, by simp [Instr.form, Form.arg], by simp [Instr.form, Form.len],
    by simp [Instr.form, Form.val]⟩

/-- What the decoder answers is carried by the record. -/
theorem carriedBy_of_decodeOp {cfg : Config} {c : Command} {i : Instr}
    (h : decodeOp cfg c = some i) : i.form.CarriedBy cfg c := by
  obtain ⟨hsplit, hclass, hindex⟩ := opcode_split c.op
  generalize c.op.toNat % 64 = k at hsplit hindex
  generalize c.op.toNat / 64 = opClass at hsplit hclass
  interval_cases opClass
  · obtain ⟨j, hj, hform⟩ := readTable_get hindex
    rw [decodeOp_read cfg hindex (by omega), hj] at h
    cases h
    exact hform ▸ carriedBy_read cfg (by omega)
  · obtain ⟨write, hwrite, hform⟩ := writeTable_get hindex c.val
    rw [decodeOp_write cfg hindex hsplit, hwrite] at h
    cases h
    exact hform ▸ carriedBy_write cfg hsplit
  · obtain ⟨j, hj, hform⟩ := skipTable_get hindex
    rw [decodeOp_skip cfg hindex hsplit, hj] at h
    cases h
    exact hform ▸ carriedBy_skip cfg hsplit
  · rw [decodeOp_class3 cfg hindex hsplit] at h
    exact carriedBy_of_decodeClass3 hsplit h

theorem decode_eq_instr_iff_decodeOp {cfg : Config} {c : Command} {i : Instr} :
    decode cfg c = .instr i ↔ decodeOp cfg c = some i := by
  unfold decode
  cases decodeOp cfg c <;> simp

/-- The decoder answers exactly the commands whose form the record carries (R90, R94, R95). -/
theorem decode_eq_instr_iff {cfg : Config} {c : Command} {i : Instr} :
    decode cfg c = .instr i ↔ i.form.CarriedBy cfg c := by
  rw [decode_eq_instr_iff_decodeOp]
  exact ⟨carriedBy_of_decodeOp,
    fun h => (decodeOp_of_carriedBy h (form_widthsLegal i)).trans (form_instr i)⟩

/-- A record that carries a form with legal widths decodes to a command of that form. -/
theorem exists_decode_of_carriedBy {cfg : Config} {c : Command} {f : Form}
    (h : f.CarriedBy cfg c) (hlegal : Laws.formWidthsLegal f = true) :
    ∃ i, decode cfg c = .instr i ∧ i.form = f := by
  obtain ⟨i, rfl⟩ := exists_instr_of_widthsLegal hlegal
  exact ⟨i, decode_eq_instr_iff.mpr h, rfl⟩

theorem opcode_of_decode {cfg : Config} {c : Command} {i : Instr} (h : decode cfg c = .instr i) :
    i.opcode = c.op :=
  BitVec.eq_of_toNat_eq ((opcode_toNat i).trans (decode_eq_instr_iff.mp h).op.symm)

/-- A reserved opcode is rejected under its own name, whatever the other fields (R96). -/
theorem decode_of_reservedOp (cfg : Config) {c : Command} (h : ReservedOp c.op) :
    decode cfg c = .reserved c.op := by
  cases hd : decodeOp cfg c with
  | none => simp [decode, hd]
  | some i =>
    rw [← opcode_of_decode (decode_eq_instr_iff_decodeOp.mpr hd)] at h
    exact absurd h (opcode_not_reserved i)

/-! ### The encoder and the packed word -/

theorem Form.wellFormed_arg_lt {cfg : Config} {f : Form} (h : f.wellFormed cfg = true) {a : Nat}
    (ha : f.arg = some a) : a < 2 ^ cfg.pw := by
  cases f with
  | newRead len off | newWrite len off =>
    cases ha
    simp only [Form.wellFormed, Bool.and_eq_true, decide_eq_true_eq] at h
    exact h.2
  | advanceBits n | skipBits n | readUpTo w n | writeUpTo w v n =>
    cases ha
    exact of_decide_eq_true h
  | _ => cases ha

theorem Form.wellFormed_len_lt {cfg : Config} {f : Form} (h : f.wellFormed cfg = true) {l : Nat}
    (hl : f.len = some l) : l < 2 ^ cfg.aw := by
  cases f with
  | newRead len off | newWrite len off =>
    cases hl
    simp only [Form.wellFormed, Bool.and_eq_true, decide_eq_true_eq] at h
    exact h.1
  | _ => cases hl

/-- The record that the encoder writes for a well-formed command carries its form. -/
theorem carriedBy_encode {cfg : Config} {i : Instr} (h : i.wellFormed cfg = true) :
    i.form.CarriedBy cfg (encode i) where
  op := opcode_toNat i
  arg a ha := by
    simp [encode, Command.argBits, ha, Nat.mod_eq_of_lt (Form.wellFormed_arg_lt h ha)]
  len l hl := by
    simp [encode, Command.lenBits, hl, Nat.mod_eq_of_lt (Form.wellFormed_len_lt h hl)]
  val v hv := by simp [encode, hv]

/-- A record with the same `OP` and the same values on the buses that the form uses carries the form
too. -/
theorem Form.CarriedBy.congr {cfg : Config} {c c' : Command} {f : Form} (h : f.CarriedBy cfg c)
    (hop : c'.op = c.op) (harg : f.arg ≠ none → c'.argBits cfg = c.argBits cfg)
    (hlen : f.len ≠ none → c'.lenBits cfg = c.lenBits cfg) (hval : f.val ≠ none → c'.val = c.val) :
    f.CarriedBy cfg c' where
  op := hop ▸ h.op
  arg a ha := (h.arg a ha).trans (harg (by simp [ha])).symm
  len l hl := (h.len l hl).trans (hlen (by simp [hl])).symm
  val v hv := (h.val v hv).trans (hval (by simp [hv])).symm

/-- The low field of a packed number. -/
theorem pack_mod {k x : Nat} (hx : x < 2 ^ k) (y : Nat) : (x + 2 ^ k * y) % 2 ^ k = x := by
  rw [Nat.add_mul_mod_self_left, Nat.mod_eq_of_lt hx]

/-- What is packed above the low field. -/
theorem pack_div {k x : Nat} (hx : x < 2 ^ k) (y : Nat) : (x + 2 ^ k * y) / 2 ^ k = y := by
  rw [Nat.add_mul_div_left _ _ (Nat.two_pow_pos k), Nat.div_eq_of_lt hx, Nat.zero_add]

/-- The widths of packed fields add up. -/
theorem pack_lt {k m x y : Nat} (hx : x < 2 ^ k) (hy : y < 2 ^ m) :
    x + 2 ^ k * y < 2 ^ (k + m) :=
  calc x + 2 ^ k * y < 2 ^ k + 2 ^ k * y := Nat.add_lt_add_right hx _
    _ = 2 ^ k * (y + 1) := by ring
    _ ≤ 2 ^ k * 2 ^ m := Nat.mul_le_mul_left _ hy
    _ = 2 ^ (k + m) := (Nat.pow_add 2 k m).symm

/-- Taking the packed word apart gives each field as its bus carries it (R90). -/
theorem ofWord_toWord (cfg : Config) (c : Command) :
    Command.ofWord cfg (c.toWord cfg) = ⟨c.op, c.argBits cfg, c.lenBits cfg, c.val⟩ := by
  have harg := c.argBits_lt cfg
  have hlen := c.lenBits_lt cfg
  have hdiv8 : c.toWord cfg / 2 ^ 8 =
      c.argBits cfg + 2 ^ cfg.pw * (c.lenBits cfg + 2 ^ cfg.aw * c.val.toNat) :=
    pack_div c.op.isLt _
  have hdivArg : c.toWord cfg / 2 ^ (8 + cfg.pw) = c.lenBits cfg + 2 ^ cfg.aw * c.val.toNat := by
    rw [Nat.pow_add, ← Nat.div_div_eq_div_mul, hdiv8, pack_div harg]
  have hdivLen : c.toWord cfg / 2 ^ (8 + cfg.pw + cfg.aw) = c.val.toNat := by
    rw [Nat.pow_add, ← Nat.div_div_eq_div_mul, hdivArg, pack_div hlen]
  have hop : BitVec.ofNat 8 (c.toWord cfg) = c.op :=
    BitVec.eq_of_toNat_eq (by rw [BitVec.toNat_ofNat]; exact pack_mod c.op.isLt _)
  simp only [Command.ofWord, hop, hdiv8, hdivArg, hdivLen, pack_mod harg, pack_mod hlen,
    BitVec.ofNat_toNat, BitVec.setWidth_eq]

/-- `CMDW` has `8 + PW + AW + 64` bits (R90). -/
theorem toWord_lt (cfg : Config) (c : Command) : c.toWord cfg < 2 ^ (72 + cfg.pw + cfg.aw) := by
  have h := pack_lt c.op.isLt (pack_lt (c.argBits_lt cfg) (pack_lt (c.lenBits_lt cfg) c.val.isLt))
  rwa [show 8 + (cfg.pw + (cfg.aw + 64)) = 72 + cfg.pw + cfg.aw by omega] at h

/-- Packing and unpacking cut each field to its bus, and a cut field is the same value on its bus. -/
theorem carriedBy_ofWord_encodeWord {cfg : Config} {i : Instr} (h : i.wellFormed cfg = true) :
    i.form.CarriedBy cfg (Command.ofWord cfg (encodeWord cfg i)) := by
  rw [encodeWord, ofWord_toWord]
  exact (carriedBy_encode h).congr rfl (fun _ => Nat.mod_mod _ _) (fun _ => Nat.mod_mod _ _)
    fun _ => rfl

/-! ### The obligations about the encoding -/

/-- Settles O1: the encoder's record carries the command's form. -/
theorem decodeEncodeRoundTrip : Obligations.DecodeEncodeRoundTrip :=
  fun _ _ h => decode_eq_instr_iff.mpr (carriedBy_encode h)

/-- Settles O2: the packed word keeps the bus bits of every field, and the widths of its fields add up. -/
theorem packedWordRoundTrip : Obligations.PackedWordRoundTrip :=
  fun cfg i h => ⟨decode_eq_instr_iff.mpr (carriedBy_ofWord_encodeWord h), toWord_lt cfg (encode i)⟩

/-- Settles O4: what the form uses is all that carrying it asks of the record. -/
theorem unusedFieldsIgnored : Obligations.UnusedFieldsIgnored := by
  intro cfg c c' i h hop harg hlen hval
  refine decode_eq_instr_iff.mpr ((decode_eq_instr_iff.mp h).congr hop ?_ ?_ hval)
  · exact fun ha => congrArg (· % 2 ^ cfg.pw) (harg ha)
  · exact fun hl => congrArg (· % 2 ^ cfg.aw) (hlen hl)

/-- Settles O5: the record carries the form of the command it decodes to. -/
theorem decodedOperandsAreTheBuses : Obligations.DecodedOperandsAreTheBuses := by
  intro cfg c i h
  obtain ⟨-, harg, hlen, hval⟩ := decode_eq_instr_iff.mp h
  exact ⟨opcode_of_decode h, decode_wellFormed h, harg, hlen, hval⟩

/-- Settles O3: in each row the record carries the row's form, and a reserved opcode is rejected by
`decode_of_reservedOp`. -/
theorem opcodeMap : Obligations.OpcodeMap := by
  intro cfg c
  have hwidth : (1 ≤ c.op.toNat % 64 + 1 && c.op.toNat % 64 + 1 ≤ 64) = true :=
    wrapperWidth_iff.mpr (by omega)
  refine ⟨fun h => ?read, fun h => ?write, fun h => ?skip, fun h => ?newRead, fun h => ?newWrite,
    fun h => ?getPos, fun h => ?getRemaining, fun h => ?advanceBits, fun h => ?skipBits,
    fun ww hww h => ?readUpTo, fun ww hww h => ?writeUpTo, decode_of_reservedOp cfg⟩
  case read => exact exists_decode_of_carriedBy (carriedBy_read cfg (by omega)) hwidth
  case write => exact exists_decode_of_carriedBy (carriedBy_write cfg (by omega)) hwidth
  case skip => exact exists_decode_of_carriedBy (carriedBy_skip cfg (by omega)) hwidth
  case readUpTo =>
    refine exists_decode_of_carriedBy
      ⟨?_, by simp [Form.arg, Command.argBits], by simp [Form.len], by simp [Form.val]⟩ ?_
    · rw [h]; interval_cases ww <;> rfl
    · interval_cases ww <;> rfl
  case writeUpTo =>
    refine exists_decode_of_carriedBy
      ⟨?_, by simp [Form.arg, Command.argBits], by simp [Form.len], by simp [Form.val]⟩ ?_
    · rw [h]; interval_cases ww <;> rfl
    · interval_cases ww <;> rfl
  all_goals
    exact decode_eq_instr_iff.mpr ⟨congrArg BitVec.toNat h,
      by simp [Instr.form, Form.arg, Command.argBits],
      by simp [Instr.form, Form.len, Command.lenBits], by simp [Instr.form, Form.val]⟩

end Sys2Proof

namespace Sys2Proof.Machine

/-! ### Errors and the status of a command -/

theorem sameButPorts_finish (s : State) (ls : List Lane) (r : Response) :
    SameButPorts s (s.finish ls r) :=
  ⟨rfl, rfl, rfl, rfl, rfl, rfl, rfl, rfl, rfl, rfl⟩

/-- A command that ends with a response and no lane has answered and changed nothing (R503). -/
theorem answers_of_exec {i : Instr} {s : State} {r : Response}
    (h : exec i s = .next (s.finish [] r)) : Answers i s r :=
  ⟨_, h, rfl, sameButPorts_finish s [] r, finish_nil_lane s r⟩

theorem expectedStatus_of_not_accepted {s : State} {f : Form} (h : accepted f s.mode = false) :
    expectedStatus s f = .illegal := by
  simp [expectedStatus, h]

theorem exec_of_illegal {i : Instr} {s : State} (h : expectedStatus s i.form = .illegal) :
    exec i s = .next (s.finish [] .illegal) := by
  rcases exec_cases i s with ⟨-, e⟩ | ⟨h', -⟩ | ⟨h', -⟩
  · exact e
  · cases h.symm.trans h'
  · cases h.symm.trans h'

/-- The success of every form ends with the status `OK`. -/
theorem afterOk_status (f : Form) (s : State) :
    ∃ r, (afterOk f s).response = some r ∧ r.status = .ok := by
  cases f <;> exact ⟨_, rfl, rfl⟩

/-- Every command ends with the status of the table (R505). -/
theorem exec_status (i : Instr) (s : State) :
    ∃ (t : State) (r : Response), exec i s = .next t ∧ t.response = some r ∧
      r.status = expectedStatus s i.form := by
  rcases exec_cases i s with ⟨h, e⟩ | ⟨h, e⟩ | ⟨h, e⟩
  · exact ⟨_, _, e, rfl, h.symm⟩
  · exact ⟨_, _, e, rfl, h.symm⟩
  · obtain ⟨r, hr, hok⟩ := afterOk_status i.form s
    exact ⟨_, r, e, hr, hok.trans h.symm⟩

/-! ### The obligations at the command port -/

/-- Settles O27: the port rejects a reserved opcode and hands every other record to its command, whose
status is the table's. -/
theorem statusIsFirstFailedCheck : Obligations.StatusIsFirstFailedCheck := by
  intro c s hs
  cases hd : decode s.cfg c with
  | reserved op => exact ⟨_, _, runCommand_of_reserved hd, rfl, rfl⟩
  | instr i =>
    rw [runCommand_of_instr hd (.inl hs)]
    exact exec_status i s

/-- Settles O28: the mode is the first check of a defined command. -/
theorem wrongModeIsIllegal : Obligations.WrongModeIsIllegal :=
  fun _ _ h => answers_of_exec (exec_of_illegal (expectedStatus_of_not_accepted h))

/-- Settles O30: the decoder rejects the opcode whatever the state, and the port answers `ILLEGAL`. -/
theorem reservedOpcodesAreIllegal : Obligations.ReservedOpcodesAreIllegal := by
  intro s c rest hop hin
  have hrun := runCommand_of_reserved (s := s.withInputs rest) (decode_of_reservedOp s.cfg hop)
  exact ⟨_, (step_of_input hin).trans hrun, rfl, rfl, sameButPorts_finish _ _ _,
    finish_nil_lane _ _⟩

/-- Settles O31: the codes are the definitions', and each status and each mode has one of 0, 1 and 2. -/
theorem statusAndModeCodes : Obligations.StatusAndModeCodes := by
  refine ⟨rfl, rfl, rfl, rfl, rfl, rfl, fun x => ?_, fun m => ?_⟩
  · cases x <;> decide
  · cases m <;> decide

end Sys2Proof.Machine

/-! PROOFS. The constructions and the queries, from what the shared bodies `newCursor` and `query` can do;
and the statements about them: `ConstructionBindsCursor`, `QueriesAnswer`, `QueriesAddUp`. -/

namespace Sys2Proof.Machine

/-! ### A construction and a query, by their conditions -/

theorem constructs_of_newCursor {i : Instr} {s : State} {md : Mode} {len off : Nat}
    (hexec : exec i s = newCursor md len off s) (h : off ≤ 8 * len) :
    Constructs i s md len off := by
  rcases newCursor_cases md len off s with ⟨-, e⟩ | ⟨hlt, -⟩
  · exact ⟨_, hexec.trans e, rfl, rfl, rfl, rfl, rfl, rfl, rfl, rfl, rfl, rfl,
      fun j => (bind_lane _ md len off j).trans (finish_nil_lane s _ j)⟩
  · omega

theorem answers_outOfRange_of_newCursor {i : Instr} {s : State} {md : Mode} {len off : Nat}
    (hexec : exec i s = newCursor md len off s) (h : 8 * len < off) : Answers i s .outOfRange := by
  rcases newCursor_cases md len off s with ⟨hle, -⟩ | ⟨-, e⟩
  · omega
  · exact answers_of_exec (hexec.trans e)

theorem answers_value_of_query {i : Instr} {s : State} {x : Nat} (hexec : exec i s = query x s)
    (hm : s.mode ≠ .unbound) : Answers i s (.ok (some (BitVec.ofNat 64 x))) := by
  rcases query_cases x s with ⟨hu, -⟩ | ⟨-, e⟩
  · exact absurd hu hm
  · exact answers_of_exec (hexec.trans e)

theorem answers_illegal_of_query {i : Instr} {s : State} {x : Nat} (hexec : exec i s = query x s)
    (hm : s.mode = .unbound) : Answers i s .illegal := by
  rcases query_cases x s with ⟨-, e⟩ | ⟨hb, -⟩
  · exact answers_of_exec (hexec.trans e)
  · exact absurd hm hb

/-! ### The width of `DATA` -/

/-- A legal `AW` is at most 61, so `LEN_BITS` fits in the 64 bits of `DATA` (R4, R104). -/
theorem State.Inv.lenBits_lt {s : State} (hi : s.Inv) : s.lenBits < 2 ^ 64 := by
  obtain ⟨⟨-, haw⟩, -, hlen, -, -, -⟩ := hi
  have hpow : 2 ^ s.cfg.aw ≤ 2 ^ 61 := Nat.pow_le_pow_right (by decide) haw
  simp only [State.lenBits]
  omega

theorem toNat_ofNat_data {x : Nat} (h : x < 2 ^ 64) : (BitVec.ofNat 64 x).toNat = x :=
  (BitVec.toNat_ofNat x 64).trans (Nat.mod_eq_of_lt h)

/-! ### The obligations about constructions and queries -/

/-- Settles O7: both commands run `newCursor`, whose one check is the start offset. -/
theorem constructionBindsCursor : Obligations.ConstructionBindsCursor := by
  intro len off s
  have hread : exec (.newRead len off) s = newCursor .read len off s := exec_eq_execForm _ s
  have hwrite : exec (.newWrite len off) s = newCursor .write len off s := exec_eq_execForm _ s
  refine ⟨⟨rfl, rfl⟩, fun h => ?_, fun h => ?_⟩
  · exact ⟨constructs_of_newCursor hread h, constructs_of_newCursor hwrite h⟩
  · exact ⟨answers_outOfRange_of_newCursor hread h, answers_outOfRange_of_newCursor hwrite h⟩

/-- Settles O8: both commands run `query`, whose one check is the mode. -/
theorem queriesAnswer : Obligations.QueriesAnswer := by
  refine ⟨⟨rfl, rfl⟩, fun s => ?_⟩
  have hpos : exec .getPos s = query s.pos s := exec_eq_execForm _ s
  have hrem : exec .getRemaining s = query s.remaining s := exec_eq_execForm _ s
  refine ⟨fun hm => ?_, fun hm => ?_⟩
  · exact ⟨answers_value_of_query hpos hm, answers_value_of_query hrem hm⟩
  · exact ⟨answers_illegal_of_query hpos hm, answers_illegal_of_query hrem hm⟩

/-- Settles O9: the queries answer with `POS` and `LEN_BITS - POS`; the invariant keeps `POS` within
`LEN_BITS`, so the difference does not truncate, and `LEN_BITS` within `DATA`. -/
theorem queriesAddUp : Obligations.QueriesAddUp := by
  intro s hi hm
  obtain ⟨-, hanswers⟩ := queriesAnswer
  obtain ⟨hbound, -⟩ := hanswers s
  obtain ⟨⟨t, ht, htr, -, -⟩, u, hu, hur, -, -⟩ := hbound hm
  have hlen : s.lenBits < 2 ^ 64 := hi.lenBits_lt
  obtain ⟨-, hpos, -, -, -, -⟩ := hi
  have hp : (BitVec.ofNat 64 s.pos).toNat = s.pos := toNat_ofNat_data (by omega)
  have hr : (BitVec.ofNat 64 s.remaining).toNat = s.lenBits - s.pos :=
    toNat_ofNat_data (Nat.lt_of_le_of_lt (Nat.sub_le _ _) hlen)
  exact ⟨t, u, .ofNat 64 s.pos, .ofNat 64 s.remaining, ht, htr, hu, hur, hp,
    by rw [hp, hr, Nat.add_sub_cancel' hpos]⟩

end Sys2Proof.Machine

/-! PROOFS. The position: what `Skip` does under its conditions, how far each success moves the cursor, and
that no command reads the record of the last one's ports; and the statements about the position:
`SkipPrimitives`, `PositionAdvancesExactly`, `SkipIsReadAndDiscard`. -/

namespace Sys2Proof.Machine

/-! ### A skip, by its range check -/

/-- The two-register advance, as the quotient and the remainder of the moved position (R140). -/
theorem advance_registers (s : State) (n : Nat) :
    (s.advance n).byteIdx = (s.pos + n) / 8 ∧
      (s.advance n).bitIdx = BitVec.ofNat 3 ((s.pos + n) % 8) := by
  simp only [State.advance_byteIdx, State.advance_bitIdx, State.pos]
  constructor
  · omega
  · congr 1
    omega

theorem skips_of_skip {i : Instr} {s : State} {c : Nat} (hexec : exec i s = skip c s)
    (h : c ≤ s.remaining) : Skips i s c := by
  obtain ⟨hbyte, hbit⟩ := advance_registers (s.finish [] (.ok none)) c
  exact ⟨_, hexec.trans (skip_ok h), rfl, hbyte, hbit, rfl, ⟨rfl, rfl, rfl, rfl, rfl, rfl, rfl⟩,
    finish_nil_lane s (.ok none)⟩

theorem answers_outOfRange_of_skip {i : Instr} {s : State} {c : Nat} (hexec : exec i s = skip c s)
    (h : s.remaining < c) : Answers i s .outOfRange :=
  answers_of_exec (hexec.trans (skip_outOfRange h))

theorem exec_advanceBits_of_read {s : State} (c : Nat) (hm : s.mode = .read) :
    exec (.advanceBits c) s = skip c s :=
  (exec_eq_execForm _ s).trans (if_neg (not_not.mpr hm))

theorem exec_skipBits_of_write {s : State} (c : Nat) (hm : s.mode = .write) :
    exec (.skipBits c) s = skip c s :=
  (exec_eq_execForm _ s).trans (if_neg (not_not.mpr hm))

/-! ### How far a success moves the cursor -/

/-- A success that moves the position does so by one advance, made from the registers of before. -/
theorem afterOk_registers_of_advanceOf {f : Form} {n : Nat} (s : State)
    (h : advanceOf f = some n) :
    (afterOk f s).byteIdx = (s.advance n).byteIdx ∧
      (afterOk f s).bitIdx = (s.advance n).bitIdx := by
  cases f <;> cases h <;> exact ⟨rfl, rfl⟩

theorem afterOk_pos_of_advanceOf {f : Form} {n : Nat} (s : State) (h : advanceOf f = some n) :
    (afterOk f s).pos = s.pos + n := by
  obtain ⟨hbyte, hbit⟩ := afterOk_registers_of_advanceOf s h
  exact (pos_of_registers hbyte hbit).trans (advance_pos s n)

/-- Of the commands without an advance, only the constructions set the position. -/
theorem afterOk_pos_of_no_advance {f : Form} (s : State) (h : advanceOf f = none)
    (hc : constructs f = false) : (afterOk f s).pos = s.pos := by
  cases f with
  | getPos => rfl
  | getRemaining => rfl
  | newRead len off => cases hc
  | newWrite len off => cases hc
  | _ => cases h

/-- No command but a construction moves the position back (R146 (d)). -/
theorem pos_le_afterOk {f : Form} (s : State) (hc : constructs f = false) :
    s.pos ≤ (afterOk f s).pos := by
  cases h : advanceOf f with
  | none => exact (afterOk_pos_of_no_advance s h hc).ge
  | some n => exact (afterOk_pos_of_advanceOf s h).symm ▸ Nat.le_add_right s.pos n

/-! ### No command reads the ports' record -/

/-- The state without the record of the last command's memory port and response. -/
def State.forgetPorts (s : State) : State :=
  { s with port := MemPort.drive 0 [], response := none }

/-- Each shared operation drives the ports anew and reads neither of them. -/
theorem execForm_forgetPorts (f : Form) (s : State) : execForm f s.forgetPorts = execForm f s := by
  cases f <;> rfl

theorem exec_forgetPorts (i : Instr) (s : State) : exec i s.forgetPorts = exec i s := by
  rw [exec_eq_execForm, exec_eq_execForm, execForm_forgetPorts]

theorem exec_eq_of_forgetPorts {t u : State} (i : Instr) (h : t.forgetPorts = u.forgetPorts) :
    exec i t = exec i u := by
  rw [← exec_forgetPorts i t, h, exec_forgetPorts]

/-! ### A command by its status -/

/-- The state in which a command of this form ends with this status. -/
def afterStatus (f : Form) (s : State) : Status → State
  | .ok => afterOk f s
  | .outOfRange => s.finish [] .outOfRange
  | .illegal => s.finish [] .illegal

theorem exec_eq_afterStatus (i : Instr) (s : State) :
    exec i s = .next (afterStatus i.form s (expectedStatus s i.form)) := by
  rcases exec_cases i s with ⟨h, e⟩ | ⟨h, e⟩ | ⟨h, e⟩
  all_goals rw [e, h]; rfl

/-- In READ a skip and a read of one width pass the same checks (R97, R98). -/
theorem expectedStatus_skip_eq_read {s : State} (n : Nat) (hm : s.mode = .read) :
    expectedStatus s (.skip n) = expectedStatus s (.read n) := by
  simp [expectedStatus, accepted, contractKept, inRange, hm]

/-- A skip and a read that end alike differ in the ports' record only (R145). -/
theorem afterStatus_skip_forgetPorts (n : Nat) (s : State) (st : Status) :
    (afterStatus (.skip n) s st).forgetPorts = (afterStatus (.read n) s st).forgetPorts := by
  cases st <;> rfl

/-! ### The obligations about the position -/

/-- Settles O10: in its mode each command runs `Skip`, whose one check is the range; the other modes do
not accept it. -/
theorem skipPrimitives : Obligations.SkipPrimitives := by
  intro c s
  refine ⟨⟨rfl, rfl⟩, fun h => ⟨fun hm => ?_, fun hm => ?_⟩, fun h => ⟨fun hm => ?_, fun hm => ?_⟩,
    fun hm => ?_, fun hm => ?_⟩
  · exact skips_of_skip (exec_advanceBits_of_read c hm) h
  · exact skips_of_skip (exec_skipBits_of_write c hm) h
  · exact answers_outOfRange_of_skip (exec_advanceBits_of_read c hm) h
  · exact answers_outOfRange_of_skip (exec_skipBits_of_write c hm) h
  · exact wrongModeIsIllegal (.advanceBits c) s (beq_false_of_ne hm)
  · exact wrongModeIsIllegal (.skipBits c) s (beq_false_of_ne hm)

/-- Settles O12: an error leaves both registers, and a success ends in the state `afterOk`. -/
theorem positionAdvancesExactly : Obligations.PositionAdvancesExactly := by
  intro i s t r h hr
  rcases exec_next h with rfl | rfl | ⟨-, rfl⟩
  · obtain rfl := Option.some.inj hr
    exact ⟨nofun, fun _ => rfl, fun _ => Nat.le_refl s.pos⟩
  · obtain rfl := Option.some.inj hr
    exact ⟨nofun, fun _ => rfl, fun _ => Nat.le_refl s.pos⟩
  · obtain ⟨r', hr', hok⟩ := afterOk_status i.form s
    obtain rfl := Option.some.inj (hr'.symm.trans hr)
    refine ⟨fun _ n hn => ?_, fun hst => absurd hok hst, pos_le_afterOk s⟩
    obtain ⟨hbyte, hbit⟩ := afterOk_registers_of_advanceOf s hn
    refine ⟨afterOk_pos_of_advanceOf s hn, ?_, hbyte⟩
    rw [hbit, State.advance_bitIdx, BitVec.toNat_ofNat, Nat.mod_mod]

/-- Settles O13: the two commands end with the same status, so in states that differ in the ports' record
only, and no command reads that record. -/
theorem skipIsReadAndDiscard : Obligations.SkipIsReadAndDiscard := by
  intro isk ird next n s t u hskip hread hm ht hu
  rw [exec_eq_afterStatus, hskip, expectedStatus_skip_eq_read n hm] at ht
  rw [exec_eq_afterStatus, hread] at hu
  obtain rfl := Host.Outcome.next.inj ht
  obtain rfl := Host.Outcome.next.inj hu
  exact exec_eq_of_forgetPorts next (afterStatus_skip_forgetPorts n s _)

end Sys2Proof.Machine

/-! PROOFS. The reads: the two ways a read command ends, the lanes and the data of its success, and what
neither depends on (the bytes outside the field, the primitive's width); and the statements about reads:
`ReadReturnsTheField`, `ReadAccessesTouchedBytesOnly`, `ReadIgnoresOtherBytes`,
`ReadWidthHasNoOtherEffect`. -/

namespace Sys2Proof.Machine

/-! ### The two ways a read ends -/

theorem inRange_of_readWidth {f : Form} {n : Nat} (s : State) (h : readWidth f = some n) :
    inRange s f = decide (n ≤ s.remaining) := by
  cases f <;> cases h <;> rfl

/-- Every read in READ, with its contract kept and in range, succeeds (R150, R505). -/
theorem exec_of_readWidth {i : Instr} {n : Nat} {s : State} (h : readWidth i.form = some n)
    (hm : s.mode = .read) (hc : contractKept i.form = true) (hr : n ≤ s.remaining) :
    exec i s = .next (afterRead n s) := by
  have hacc : accepted i.form s.mode = true := by simp [accepted_of_readWidth _ h, hm]
  have hrange : inRange s i.form = true := by simp [inRange_of_readWidth s h, hr]
  have hok : expectedStatus s i.form = .ok := expectedStatus_eq_ok_iff.mpr ⟨hacc, hc, hrange⟩
  rw [exec_eq_afterStatus, hok, afterStatus, afterOk_of_readWidth s h]

/-- A read ends with an error, which carries no data and drives no lane, or in `afterRead`. -/
theorem exec_next_of_readWidth {i : Instr} {n : Nat} {s t : State} (h : readWidth i.form = some n)
    (ht : exec i s = .next t) :
    (∃ e : Response, e.status ≠ .ok ∧ e.data = none ∧ t = s.finish [] e) ∨ t = afterRead n s := by
  rcases exec_next ht with rfl | rfl | ⟨-, rfl⟩
  · exact .inl ⟨.illegal, nofun, rfl, rfl⟩
  · exact .inl ⟨.outOfRange, nofun, rfl, rfl⟩
  · exact .inr (afterOk_of_readWidth s h)

/-! ### The lanes and the data of a success -/

/-- The lanes of a read: each touched byte is read on its own lane, the other lanes are idle (R60). -/
theorem afterRead_lane (n : Nat) (s : State) (j : Nat) :
    (afterRead n s).lane j =
      if j < touched s.bitIdx.toNat n then ⟨some (s.mem.byteAt (s.byteIdx + j)), none⟩
      else Lane.idle := by
  simp only [afterRead, advance_lane, finish_lane, readLanes_getD]

theorem afterRead_status {n : Nat} {s : State} {r : Response}
    (h : (afterRead n s).response = some r) : r.status = .ok := by
  obtain rfl := Option.some.inj h
  rfl

/-- The value a read of `n` bits at the position of `s` puts on `DATA` (R150). -/
def readData (n : Nat) (s : State) : Data :=
  extractField s.bitIdx.toNat n (window (s.mem.bytesFrom s.byteIdx (touched s.bitIdx.toNat n)))

theorem afterRead_response (n : Nat) (s : State) :
    (afterRead n s).response = some (.ok (some (readData n s))) := rfl

/-- A field of at most 64 bits is on `DATA` whole, and the bits above it are 0 (R104, R155). -/
theorem readData_eq_bitAt {n : Nat} (hn : n ≤ 64) (s : State) (b : Nat) :
    (readData n s).getLsbD b = (decide (b < n) && bitAt s.mem (s.pos + b)) := by
  rw [readData, readData_getLsbD, ← State.pos]
  by_cases hb : b < n
  · simp [hb, hb.trans_le hn]
  · simp [hb]

/-! ### What a read does not depend on -/

/-- No check of a command looks at the buffer's bytes (R98). -/
theorem expectedStatus_withMem (s : State) (m : Memory) (f : Form) :
    expectedStatus (s.withMem m) f = expectedStatus s f := by
  cases f <;> rfl

/-- The success of a read depends on the touched bytes only (R156). -/
theorem afterRead_withMem {n : Nat} {s : State} {m : Memory}
    (h : ∀ a, s.touches n a → m.byteAt a = s.mem.byteAt a) :
    afterRead n (s.withMem m) = (afterRead n s).withMem m := by
  have hbytes : m.bytesFrom s.byteIdx (touched s.bitIdx.toNat n) =
      s.mem.bytesFrom s.byteIdx (touched s.bitIdx.toNat n) :=
    bytesFrom_congr fun a hge hlt => h a ⟨hge, hlt⟩
  simp only [afterRead, State.withMem_mem, State.withMem_byteIdx, State.withMem_bitIdx, hbytes]
  rfl

theorem afterStatus_withMem_of_readWidth {f : Form} {n : Nat} {s : State} {m : Memory}
    (hw : readWidth f = some n) (h : ∀ a, s.touches n a → m.byteAt a = s.mem.byteAt a)
    (st : Status) : afterStatus f (s.withMem m) st = (afterStatus f s st).withMem m := by
  cases st with
  | ok => simp only [afterStatus, afterOk_of_readWidth _ hw, afterRead_withMem h]
  | outOfRange => rfl
  | illegal => rfl

/-- The primitive's width enters its checks by the contract alone (R98). -/
theorem expectedStatus_readUpTo_width {w1 w2 n : Nat} (s : State) (h1 : n ≤ w1) (h2 : n ≤ w2) :
    expectedStatus s (.readUpTo w1 n) = expectedStatus s (.readUpTo w2 n) := by
  have hcontract : contractKept (.readUpTo w1 n) = contractKept (.readUpTo w2 n) := by
    simp [contractKept, h1, h2]
  rw [expectedStatus, hcontract]
  rfl

theorem afterStatus_readUpTo_width (w1 w2 n : Nat) (s : State) (st : Status) :
    afterStatus (.readUpTo w1 n) s st = afterStatus (.readUpTo w2 n) s st := by
  cases st <;> rfl

/-! ### The obligations about reads -/

/-- Settles O15: the command ends in `afterRead`, whose data is the field bit by bit. -/
theorem readReturnsTheField : Obligations.ReadReturnsTheField := by
  intro i n s hw hm hc hr
  have h64 : n ≤ 64 := readWidth_le hw (form_widthsLegal i) hc
  exact ⟨afterRead n s, readData n s, exec_of_readWidth hw hm hc hr, afterRead_response n s,
    readData_eq_bitAt h64 s, advance_pos _ n, afterRead_mem n s,
    ⟨rfl, rfl, rfl, rfl, rfl, rfl, rfl⟩⟩

/-- Settles O16: an error drives no lane and leaves the registers; a success reads the lanes of
`afterRead_lane`. -/
theorem readAccessesTouchedBytesOnly : Obligations.ReadAccessesTouchedBytesOnly := by
  intro i n s t r hw ht hr
  rcases exec_next_of_readWidth hw ht with ⟨e, herr, hdata, rfl⟩ | rfl
  · obtain rfl : e = r := Option.some.inj hr
    exact ⟨rfl, by simp, rfl, fun hok => absurd hok herr,
      fun _ => ⟨hdata, rfl, rfl, finish_nil_lane s e⟩⟩
  · refine ⟨afterRead_mem n s, afterRead_lane_wdata n s, rfl, fun _ j => ?_,
      fun herr => absurd (afterRead_status hr) herr⟩
    rw [afterRead_lane]
    split <;> rfl

/-- Settles O17: with the other buffer the command ends with the same status, and each status leaves the
same state but for the buffer. -/
theorem readIgnoresOtherBytes : Obligations.ReadIgnoresOtherBytes := by
  intro i n s m hw hagree t ht
  rw [exec_eq_afterStatus] at ht
  obtain rfl := Host.Outcome.next.inj ht
  rw [exec_eq_afterStatus, expectedStatus_withMem, afterStatus_withMem_of_readWidth hw hagree]

/-- Settles O18: the two commands end with the same status, and no status leaves a state that depends on
the width. -/
theorem readWidthHasNoOtherEffect : Obligations.ReadWidthHasNoOtherEffect := by
  intro i j w1 w2 n s hi hj h1 h2
  rw [exec_eq_afterStatus, exec_eq_afterStatus, hi, hj, expectedStatus_readUpTo_width s h1 h2,
    afterStatus_readUpTo_width w1 w2]

end Sys2Proof.Machine

/-! PROOFS. The read wrappers: the rows of the width table, and that a wrapper is the read primitive of its
row; and the statement about them: `ReadWrappersForward`. -/

namespace Sys2Proof.Machine

/-! ### The width table, by its rows (R8) -/

theorem wd_eq_8 {n : Nat} (h : n ≤ 8) : wd n = 8 := if_pos h

theorem wd_eq_16 {n : Nat} (h9 : 9 ≤ n) (h16 : n ≤ 16) : wd n = 16 := by
  rw [wd, if_neg (by omega), if_pos h16]

theorem wd_eq_32 {n : Nat} (h17 : 17 ≤ n) (h32 : n ≤ 32) : wd n = 32 := by
  rw [wd, if_neg (by omega), if_neg (by omega), if_pos h32]

theorem wd_eq_64 {n : Nat} (h33 : 33 ≤ n) : wd n = 64 := by
  rw [wd, if_neg (by omega), if_neg (by omega), if_neg (by omega)]

/-! ### A wrapper is the primitive of its row -/

/-- A wrapper's `N` is a legal width, and its opcode is `N - 1` (R4, R92). -/
theorem read_width_and_opcode {i : Instr} {n : Nat} (h : i.form = .read n) :
    1 ≤ n ∧ n ≤ 64 ∧ i.opcode.toNat = n - 1 := by
  have hlegal : Laws.formWidthsLegal (.read n) = true := h ▸ form_widthsLegal i
  obtain ⟨h1, h64⟩ := wrapperWidth_iff.mp hlegal
  exact ⟨h1, h64, by rw [opcode_toNat, h, Form.opcode]⟩

/-- Both commands are `Read(Wd(N), N)` (R150, R200). -/
theorem exec_read_eq_readUpTo {i j : Instr} {n w : Nat} (hi : i.form = .read n)
    (hj : j.form = .readUpTo w n) (hw : wd n = w) (s : State) : exec i s = exec j s := by
  rw [exec_eq_execForm, exec_eq_execForm, hi, hj, execForm, execForm, hw]

/-- Settles O14: in each row of the width table, `Wd(N)` is the width of the row's primitive. -/
theorem readWrappersForward : Obligations.ReadWrappersForward := by
  intro i n h
  refine ⟨read_width_and_opcode h, fun s => ⟨fun h8 => ?u8, fun h9 h16 => ?u16,
    fun h17 h32 => ?u32, fun h33 => ?u64⟩⟩
  case u8 => exact exec_read_eq_readUpTo h rfl (wd_eq_8 h8) s
  case u16 => exact exec_read_eq_readUpTo h rfl (wd_eq_16 h9 h16) s
  case u32 => exact exec_read_eq_readUpTo h rfl (wd_eq_32 h17 h32) s
  case u64 => exact exec_read_eq_readUpTo h rfl (wd_eq_64 h33) s

end Sys2Proof.Machine

/-! PROOFS. The writes: when a write succeeds, its lanes and the buffer it leaves, and that it depends on
the low bits of its value only; and the statements about writes: `WriteInsertsTheField`,
`WriteLanesByCoverage`, `WriteUsesLowBitsOnly`, `WriteReadRoundTrip`. -/

namespace Sys2Proof.Machine

/-! ### When a write succeeds -/

theorem inRange_of_writeWidth {f : Form} {n : Nat} {v : Data} (s : State)
    (h : writeWidth f = some (n, v)) : inRange s f = decide (n ≤ s.remaining) := by
  cases f <;> cases h <;> rfl

/-- A write whose contract is kept has 1 to 64 bits (R4, R98). -/
theorem writeWidth_bounds {f : Form} {n : Nat} {v : Data} (h : writeWidth f = some (n, v))
    (hlegal : Laws.formWidthsLegal f = true) (hcontract : contractKept f = true) :
    1 ≤ n ∧ n ≤ 64 := by
  cases f with
  | write m w =>
    cases h
    exact wrapperWidth_iff.mp hlegal
  | writeUpTo w x m =>
    cases h
    simp only [contractKept, Bool.and_eq_true, decide_eq_true_eq] at hcontract
    rcases primitiveWidth_cases hlegal with rfl | rfl | rfl | rfl <;> omega
  | _ => cases h

/-- Every write in WRITE, with its contract kept and in range, succeeds (R170, R505). -/
theorem exec_of_writeWidth {i : Instr} {n : Nat} {v : Data} {s : State}
    (h : writeWidth i.form = some (n, v)) (hm : s.mode = .write)
    (hc : contractKept i.form = true) (hr : n ≤ s.remaining) :
    exec i s = .next (afterWrite v n s) := by
  have hacc : accepted i.form s.mode = true := by simp [accepted_of_writeWidth _ h, hm]
  have hrange : inRange s i.form = true := by simp [inRange_of_writeWidth s h, hr]
  have hok : expectedStatus s i.form = .ok := expectedStatus_eq_ok_iff.mpr ⟨hacc, hc, hrange⟩
  rw [exec_eq_afterStatus, hok, afterStatus, afterOk_of_writeWidth s h]

/-! ### The buffer and the lanes of a success -/

theorem afterWrite_mem (v : Data) (n : Nat) (s : State) :
    (afterWrite v n s).mem =
      s.mem.storeLanes s.byteIdx (writeLanes s.mem s.byteIdx s.bitIdx.toNat n v) := rfl

/-- A write inserts the field's bits and keeps every other bit of the buffer (R175). -/
theorem afterWrite_bitAt {n : Nat} (hn : 1 ≤ n) (v : Data) (s : State) (p : Nat) :
    bitAt (afterWrite v n s).mem p =
      if s.pos ≤ p ∧ p < s.pos + n then v.getLsbD (p - s.pos) else bitAt s.mem p := by
  rw [afterWrite_mem, written_bitAt _ _ _ _ _ _ hn, State.pos]

/-- A write stores to the touched bytes only (R53, R170). -/
theorem afterWrite_sameBytesOutside (v : Data) (n : Nat) (s : State) :
    SameBytesOutside (s.touches n) s.mem (afterWrite v n s).mem := by
  intro a ha
  exact (written_listed _ _ _ _ _ _).trans (if_neg ha)

@[simp] theorem withMem_lane (s : State) (m : Memory) (j : Nat) :
    (s.withMem m).lane j = s.lane j := rfl

/-- The lanes of a write: each touched byte has its own lane, the other lanes are idle (R60). -/
theorem afterWrite_lane (v : Data) (n : Nat) (s : State) (j : Nat) :
    (afterWrite v n s).lane j =
      if j < touched s.bitIdx.toNat n then
        writeLane s.mem s.byteIdx s.bitIdx.toNat n v j
      else Lane.idle := by
  simp only [afterWrite, advance_lane, withMem_lane, finish_lane, writeLanes_getD]

/-- What the lane of a touched byte stores is what the buffer then holds there (R51, R170). -/
theorem writeLane_wdata_eq_written {o n j : Nat} (m : Memory) (b : Nat) (v : Data)
    (hj : j < touched o n) :
    (writeLane m b o n v j).wdata =
      some ((m.storeLanes b (writeLanes m b o n v)).byteAt (b + j)) := by
  rw [Memory.byteAt, written_listed, if_pos (by omega), Nat.add_sub_cancel_left]
  rfl

/-- The lane mask is full exactly when the field covers the byte whole (R75, R176). The byte's first and
last bits decide the one direction, every bit between them the other. -/
theorem laneMask_eq_full_iff {o n j : Nat} :
    laneMask o n j = 0xFF ↔ o ≤ 8 * j ∧ 8 * j + 8 ≤ o + n := by
  constructor
  · intro hfull
    have hfirst : (laneMask o n j).getLsbD 0 = true := by rw [hfull]; decide
    have hlast : (laneMask o n j).getLsbD 7 = true := by rw [hfull]; decide
    simp only [laneMask_getLsbD, Bool.and_eq_true, decide_eq_true_eq] at hfirst hlast
    omega
  · intro hcover
    refine laneMask_eq_ofNat (x := mask 8) fun t ht => ?_
    rw [mask_testBit]
    exact decide_eq_decide.mpr (by omega)

/-- The lane of a byte reads it exactly when the field covers it in part (R60, R176). -/
theorem writeLane_rdata (m : Memory) (b o n : Nat) (v : Data) (j : Nat) :
    (writeLane m b o n v j).rdata =
      if o ≤ 8 * j ∧ 8 * j + 8 ≤ o + n then none else some (m.byteAt (b + j)) :=
  if_congr laneMask_eq_full_iff rfl rfl

/-! ### What a write does not depend on -/

/-- The mask takes the low `n` bits, so the field in place depends on them only (R177). -/
theorem insertion_congr {n : Nat} {v v' : Data} (h : ∀ b, b < n → v.getLsbD b = v'.getLsbD b)
    (o : Nat) : insertion o n v = insertion o n v' := by
  have hmasked : v.toNat &&& mask n = v'.toNat &&& mask n := by
    apply Nat.eq_of_testBit_eq
    intro b
    rw [Nat.testBit_and, Nat.testBit_and, mask_testBit, BitVec.testBit_toNat, BitVec.testBit_toNat]
    by_cases hb : b < n
    · rw [h b hb]
    · simp [hb]
  rw [insertion, insertion, hmasked]

theorem writeLanes_congr {n : Nat} {v v' : Data} (h : ∀ b, b < n → v.getLsbD b = v'.getLsbD b)
    (m : Memory) (b o : Nat) : writeLanes m b o n v = writeLanes m b o n v' := by
  have hlane : writeLane m b o n v = writeLane m b o n v' := by
    funext j
    simp only [writeLane, laneData, insertion_congr h]
  rw [writeLanes, writeLanes, hlane]

theorem afterWrite_congr {n : Nat} {v v' : Data} (h : ∀ b, b < n → v.getLsbD b = v'.getLsbD b)
    (s : State) : afterWrite v n s = afterWrite v' n s := by
  simp only [afterWrite, writeLanes_congr h]

/-- Of a write's form its checks use the width and the contract alone (R98). -/
theorem expectedStatus_congr_of_writeWidth {f g : Form} {n : Nat} {v v' : Data}
    (hf : writeWidth f = some (n, v)) (hg : writeWidth g = some (n, v'))
    (hc : contractKept f = contractKept g) (s : State) :
    expectedStatus s f = expectedStatus s g := by
  simp only [expectedStatus, accepted_of_writeWidth _ hf, accepted_of_writeWidth _ hg, hc,
    inRange_of_writeWidth s hf, inRange_of_writeWidth s hg]

/-- Two writes of one width that keep or break their contracts alike, and whose values agree on the
field's bits, do the same thing (R177). -/
theorem exec_congr_of_writeWidth {i j : Instr} {n : Nat} {v v' : Data}
    (hi : writeWidth i.form = some (n, v)) (hj : writeWidth j.form = some (n, v'))
    (hc : contractKept i.form = contractKept j.form)
    (h : ∀ b, b < n → v.getLsbD b = v'.getLsbD b) (s : State) : exec i s = exec j s := by
  rw [exec_eq_afterStatus, exec_eq_afterStatus, expectedStatus_congr_of_writeWidth hi hj hc]
  cases expectedStatus s j.form with
  | ok =>
    rw [afterStatus, afterStatus, afterOk_of_writeWidth s hi, afterOk_of_writeWidth s hj,
      afterWrite_congr h]
  | outOfRange => rfl
  | illegal => rfl

/-! ### The round trip -/

/-- The position of a new cursor is its start offset (R130, R131). -/
theorem pos_of_construction {t : State} {off : Nat} (hbyte : t.byteIdx = off / 8)
    (hbit : t.bitIdx = BitVec.ofNat 3 (off % 8)) : t.pos = off :=
  (pos_of_registers (s := t.bind t.mode t.lenBytes off) hbyte hbit).trans (bind_pos t _ _ off)

/-- A field of a buffer of `len` bytes is in range for a new cursor at its start (R9). -/
theorem inRange_of_construction {t : State} {n len off : Nat} (hlen : t.lenBytes = len)
    (hpos : t.pos = off) (h : off + n ≤ 8 * len) : n ≤ t.lenBits - t.pos := by
  rw [State.lenBits, hlen, hpos]
  omega

/-- The value with the low `n` bits of `v` and zeros above them is `v & mask(n)`, as a number (R7). -/
theorem toNat_eq_mod_of_getLsbD {d v : Data} {n : Nat}
    (h : ∀ b, d.getLsbD b = (decide (b < n) && v.getLsbD b)) : d.toNat = v.toNat % 2 ^ n := by
  apply Nat.eq_of_testBit_eq
  intro b
  rw [Nat.testBit_mod_two_pow, BitVec.testBit_toNat, BitVec.testBit_toNat, h]

/-! ### The obligations about writes -/

/-- Settles O20: the command ends in `afterWrite`, whose buffer is the merge of the touched bytes. -/
theorem writeInsertsTheField : Obligations.WriteInsertsTheField := by
  intro i n v s hw hm hc hr
  obtain ⟨hn, -⟩ := writeWidth_bounds hw (form_widthsLegal i) hc
  exact ⟨afterWrite v n s, exec_of_writeWidth hw hm hc hr, rfl, afterWrite_bitAt hn v s,
    afterWrite_sameBytesOutside v n s, advance_pos _ n, ⟨rfl, rfl, rfl, rfl, rfl, rfl, rfl⟩⟩

/-- Settles O21: the response says that the command ended in `afterWrite`, whose lanes are `writeLane` for
the touched bytes, at most nine, and idle above them. -/
theorem writeLanesByCoverage : Obligations.WriteLanesByCoverage := by
  intro i n v s t hw ht hr
  obtain ⟨hok, rfl⟩ := exec_ok ht hr
  obtain ⟨-, hc, -⟩ := expectedStatus_eq_ok_iff.mp hok
  obtain ⟨-, h64⟩ := writeWidth_bounds hw (form_widthsLegal i) hc
  have hnine : touched s.bitIdx.toNat n ≤ 9 := touched_le_nine s.bitIdx.isLt h64
  rw [afterOk_of_writeWidth s hw]
  refine ⟨rfl, drive_length _ (by rwa [writeLanes_length]), fun j => ⟨fun hj => ?_, fun hj => ?_⟩⟩
  · rw [afterWrite_lane, if_pos hj, afterWrite_mem]
    exact ⟨writeLane_wdata_eq_written s.mem s.byteIdx v hj, writeLane_rdata ..⟩
  · rw [afterWrite_lane, if_neg (Nat.not_lt.mpr hj)]

/-- Settles O22: a wrapper has no contract to break, and two primitives that allow `n` both keep theirs
exactly when `n` is not 0. -/
theorem writeUsesLowBitsOnly : Obligations.WriteUsesLowBitsOnly := by
  refine ⟨fun i j n v v' s hi hj h => ?_, fun i j w1 w2 n v v' s hi hj h1 h2 h => ?_⟩
  · exact exec_congr_of_writeWidth (by rw [hi, writeWidth]) (by rw [hj, writeWidth])
      (by rw [hi, hj, contractKept, contractKept]) h s
  · have hcontract : contractKept i.form = contractKept j.form := by
      simp [hi, hj, contractKept, h1, h2]
    exact exec_congr_of_writeWidth (by rw [hi, writeWidth]) (by rw [hj, writeWidth]) hcontract h s

/-- Settles O23: both constructions put the cursor at `off`, so the read returns the bits that the write
has inserted there. -/
theorem writeReadRoundTrip : Obligations.WriteReadRoundTrip := by
  intro iw ir n len off v s hiw hir hfit
  have hoff : off ≤ 8 * len := by omega
  obtain ⟨-, hconstruct, -⟩ := constructionBindsCursor len off s
  obtain ⟨-, t1, hexec1, -, hmode1, hlen1, hbyte1, hbit1, -⟩ := hconstruct hoff
  have hpos1 : t1.pos = off := pos_of_construction hbyte1 hbit1
  obtain ⟨t2, hexec2, -, hbits2, -⟩ := writeInsertsTheField iw n v t1 (by rw [hiw, writeWidth])
    hmode1 (by rw [hiw, contractKept]) (inRange_of_construction hlen1 hpos1 hfit)
  obtain ⟨-, hconstruct, -⟩ := constructionBindsCursor len off t2
  obtain ⟨⟨t3, hexec3, -, hmode3, hlen3, hbyte3, hbit3, hmem3, -⟩, -⟩ := hconstruct hoff
  have hpos3 : t3.pos = off := pos_of_construction hbyte3 hbit3
  obtain ⟨t4, d, hexec4, hresp4, hdata, -⟩ := readReturnsTheField ir n t3 (by rw [hir, readWidth])
    hmode3 (by rw [hir, contractKept]) (inRange_of_construction hlen3 hpos3 hfit)
  refine ⟨t1, t2, t3, t4, d, hexec1, hexec2, hexec3, hexec4, hresp4,
    toNat_eq_mod_of_getLsbD fun b => ?_⟩
  rw [hdata, hpos3, hmem3, hbits2, hpos1]
  by_cases hb : b < n
  · simp [hb]
  · simp [hb]

end Sys2Proof.Machine

/-! PROOFS. The write wrappers: that a wrapper is the write primitive of its row of the width table; and
the statement about them: `WriteWrappersForward`. -/

namespace Sys2Proof.Machine

/-- A wrapper's `N` is a legal width, and its opcode is `0x40 + N - 1` (R4, R92). -/
theorem write_width_and_opcode {i : Instr} {n : Nat} {v : Data} (h : i.form = .write n v) :
    1 ≤ n ∧ n ≤ 64 ∧ i.opcode.toNat = 0x40 + n - 1 := by
  have hlegal : Laws.formWidthsLegal (.write n v) = true := h ▸ form_widthsLegal i
  obtain ⟨h1, h64⟩ := wrapperWidth_iff.mp hlegal
  exact ⟨h1, h64, by rw [opcode_toNat, h, Form.opcode, Nat.add_sub_assoc h1]⟩

/-- Both commands are `Write(Wd(N), value, N)` (R170, R300). -/
theorem exec_write_eq_writeUpTo {i j : Instr} {n w : Nat} {v : Data} (hi : i.form = .write n v)
    (hj : j.form = .writeUpTo w v n) (hw : wd n = w) (s : State) : exec i s = exec j s := by
  rw [exec_eq_execForm, exec_eq_execForm, hi, hj, execForm, execForm, hw]

/-- Settles O19: in each row of the width table, `Wd(N)` is the width of the row's primitive. -/
theorem writeWrappersForward : Obligations.WriteWrappersForward := by
  intro i n v h
  refine ⟨write_width_and_opcode h, fun s => ⟨fun h8 => ?u8, fun h9 h16 => ?u16,
    fun h17 h32 => ?u32, fun h33 => ?u64⟩⟩
  case u8 => exact exec_write_eq_writeUpTo h rfl (wd_eq_8 h8) s
  case u16 => exact exec_write_eq_writeUpTo h rfl (wd_eq_16 h9 h16) s
  case u32 => exact exec_write_eq_writeUpTo h rfl (wd_eq_32 h17 h32) s
  case u64 => exact exec_write_eq_writeUpTo h rfl (wd_eq_64 h33) s

end Sys2Proof.Machine

/-! PROOFS. The skip wrappers: that a wrapper bound to a cursor is `Skip(N)`; and the statement about them:
`SkipWrappersForward`. -/

namespace Sys2Proof.Machine

/-- A wrapper's `N` is a legal width, and its opcode is `0x80 + N - 1` (R4, R92). -/
theorem skip_width_and_opcode {i : Instr} {n : Nat} (h : i.form = .skip n) :
    1 ≤ n ∧ n ≤ 64 ∧ i.opcode.toNat = 0x80 + n - 1 := by
  have hlegal : Laws.formWidthsLegal (.skip n) = true := h ▸ form_widthsLegal i
  obtain ⟨h1, h64⟩ := wrapperWidth_iff.mp hlegal
  exact ⟨h1, h64, by rw [opcode_toNat, h, Form.opcode, Nat.add_sub_assoc h1]⟩

/-- With a cursor bound, in READ and in WRITE alike, a wrapper is `Skip(N)` (R400). -/
theorem exec_skip_of_bound {i : Instr} {n : Nat} {s : State} (h : i.form = .skip n)
    (hm : s.mode ≠ .unbound) : exec i s = skip n s := by
  rw [exec_eq_execForm, h, execForm, skipFixed, if_neg hm]

/-- UNBOUND does not accept a skip (R97). -/
theorem not_accepted_skip_unbound {i : Instr} {n : Nat} {s : State} (h : i.form = .skip n)
    (hm : s.mode = .unbound) : accepted i.form s.mode = false := by
  rw [h, hm]
  rfl

/-- Settles O11: with a cursor bound the wrapper and the primitive of its mode are both `Skip(N)`, whose
one check is the range; UNBOUND does not accept it. -/
theorem skipWrappersForward : Obligations.SkipWrappersForward := by
  intro i n h
  refine ⟨skip_width_and_opcode h, fun s => ⟨fun hm => ?read, fun hm => ?write, fun hm => ?unbound,
    fun hm hin => ?inRange, fun hm hout => ?outOfRange⟩⟩
  case read =>
    have hbound : s.mode ≠ .unbound := by simp [hm]
    exact (exec_skip_of_bound h hbound).trans (exec_advanceBits_of_read n hm).symm
  case write =>
    have hbound : s.mode ≠ .unbound := by simp [hm]
    exact (exec_skip_of_bound h hbound).trans (exec_skipBits_of_write n hm).symm
  case unbound => exact wrongModeIsIllegal i s (not_accepted_skip_unbound h hm)
  case inRange => exact skips_of_skip (exec_skip_of_bound h hm) hin
  case outOfRange => exact answers_outOfRange_of_skip (exec_skip_of_bound h hm) hout

end Sys2Proof.Machine

/-! PROOFS. Errors at the machine: the state in which a failed command leaves it; and the statements about
failed commands and about an engine without a command: `FailedCommandChangesNothing`,
`EngineWaitsForACommand`. -/

namespace Sys2Proof.Machine

/-- A command that fails ends in the raised error, which carries no data; a success has the status `OK`
(R503, R505). -/
theorem exec_next_of_failed {i : Instr} {s t : State} {r : Response} (h : exec i s = .next t)
    (hr : t.response = some r) (hfail : r.status ≠ .ok) : t = s.finish [] r ∧ r.data = none := by
  rcases exec_next h with rfl | rfl | ⟨-, rfl⟩
  case inl =>
    obtain rfl : Response.illegal = r := Option.some.inj hr
    exact ⟨rfl, rfl⟩
  case inr.inl =>
    obtain rfl : Response.outOfRange = r := Option.some.inj hr
    exact ⟨rfl, rfl⟩
  case inr.inr =>
    obtain ⟨r', hr', hok⟩ := afterOk_status i.form s
    obtain rfl : r' = r := Option.some.inj (hr'.symm.trans hr)
    exact absurd hok hfail

/-- Settles O29: a raised error gives the response on idle lanes and touches nothing but the ports. -/
theorem failedCommandChangesNothing : Obligations.FailedCommandChangesNothing := by
  intro i s t r h hr hfail
  obtain ⟨rfl, hdata⟩ := exec_next_of_failed h hr hfail
  exact ⟨sameButPorts_finish s [] r, finish_nil_lane s r, hdata⟩

/-- Settles O35: the step without an input. -/
theorem engineWaitsForACommand : Obligations.EngineWaitsForACommand := fun _ => step_of_no_input

end Sys2Proof.Machine

/-! PROOFS. Runs and resets: what a command leaves of the host's inputs and of the exclusivity mark, what
the buffer holds after a reset between commands and during one, and the spec's printed words; and the
statements about them: `EveryCommandIsAnswered`, `RunsCannotHang`, `ResetUnbindsTheEngine`,
`ResetDuringACommand`, `SpecWordsDecode`. -/

namespace Sys2Proof.Machine

/-! ### What a command leaves of the host's side -/

theorem afterOk_inputs (f : Form) (s : State) : (afterOk f s).inputs = s.inputs := by
  cases f <;> rfl

/-- A construction gives exclusive access, and every other command leaves the mark as it was (R547). -/
theorem afterOk_exclusive {f : Form} {s : State} (hs : s.shared = false) :
    (afterOk f s).shared = false := by
  cases f with
  | newRead len off => rfl
  | newWrite len off => rfl
  | _ => exact hs

theorem exec_keeps_inputs {i : Instr} {s t : State} (h : exec i s = .next t) :
    t.inputs = s.inputs := by
  rcases exec_next h with rfl | rfl | ⟨-, rfl⟩
  · rfl
  · rfl
  · exact afterOk_inputs i.form s

theorem exec_keeps_exclusive {i : Instr} {s t : State} (h : exec i s = .next t)
    (hs : s.shared = false) : t.shared = false := by
  rcases exec_next h with rfl | rfl | ⟨-, rfl⟩
  · exact hs
  · exact hs
  · exact afterOk_exclusive hs

theorem runCommand_keeps_inputs {c : Command} {s t : State} (h : runCommand c s = .next t) :
    t.inputs = s.inputs := by
  rcases runCommand_next h with rfl | ⟨i, -, he⟩
  · rfl
  · exact exec_keeps_inputs he

theorem runCommand_keeps_exclusive {c : Command} {s t : State} (h : runCommand c s = .next t)
    (hs : s.shared = false) : t.shared = false := by
  rcases runCommand_next h with rfl | ⟨i, -, he⟩
  · exact hs
  · exact exec_keeps_exclusive he hs

/-- With the buffer exclusive, the step that takes a command answers it and leaves the buffer exclusive, so
that the next command is answered too (R553). -/
theorem step_command_answered {s : State} {c : Command} {rest : List HostInput}
    (hin : s.inputs = .command c :: rest) (hs : s.shared = false) :
    ∃ (t : State) (r : Response),
      step s = .next t ∧ t.inputs = rest ∧ t.shared = false ∧ t.response = some r := by
  obtain ⟨t, r, hrun, hr, -⟩ := statusIsFirstFailedCheck c (s.withInputs rest) hs
  exact ⟨t, r, (step_of_input hin).trans hrun, runCommand_keeps_inputs hrun,
    runCommand_keeps_exclusive hrun hs, hr⟩

/-- A run that begins with a command begins with its response (R552). -/
theorem responsesOf_command {s t : State} {c : Command} {rest : List HostInput} (k : Nat)
    (hstep : step s = .next t) (hin : s.inputs = .command c :: rest) :
    responsesOf (k + 1) s = t.response.toList ++ responsesOf k t := by
  simp only [responsesOf, hstep, hin]

/-! ### After a reset -/

@[simp] theorem resetEngine_lane (s : State) (j : Nat) : s.resetEngine.lane j = Lane.idle :=
  drive_lane 0 [] j

/-- UNBOUND accepts the constructions and nothing else (R97). -/
theorem accepted_unbound (f : Form) : accepted f .unbound = constructs f := by
  cases f <;> rfl

/-! ### The bytes of an interrupted command -/

/-- Only a command that writes a field asserts a write-enable (R73). -/
theorem afterOk_lane_wdata_of_no_write {f : Form} (s : State) (hw : writeWidth f = none) (j : Nat) :
    ((afterOk f s).lane j).wdata = none := by
  cases hr : readWidth f with
  | some n => rw [afterOk_of_readWidth s hr, afterRead_lane_wdata]
  | none =>
    obtain ⟨-, hidle⟩ := afterOk_of_no_field s hr hw
    rw [hidle, idle_wdata]

/-- What a lane of a write stores is what the buffer then lists at the lane's offset (R52). -/
theorem afterWrite_listed_of_wdata {n j : Nat} {v : Data} {x : Byte} {s : State}
    (hx : ((afterWrite v n s).lane j).wdata = some x) :
    (afterWrite v n s).mem.listed (s.byteIdx + j) = some x := by
  simp only [afterWrite, advance_lane, withMem_lane, finish_lane] at hx
  rw [afterWrite_mem, listed_storeLanes, if_neg (by omega), Nat.add_sub_cancel_left, hx]

theorem exec_listed_of_wdata {i : Instr} {s u : State} {j : Nat} {x : Byte}
    (h : exec i s = .next u) (hx : (u.lane j).wdata = some x) :
    u.mem.listed (u.port.addr + j) = some x := by
  rcases exec_next h with rfl | rfl | ⟨-, rfl⟩
  · simp at hx
  · simp at hx
  · cases hw : writeWidth i.form with
    | none => simp [afterOk_lane_wdata_of_no_write s hw] at hx
    | some p =>
      rw [afterOk_of_writeWidth s hw] at hx ⊢
      exact afterWrite_listed_of_wdata hx

theorem runCommand_listed_of_wdata {c : Command} {s u : State} {j : Nat} {x : Byte}
    (h : runCommand c s = .next u) (hx : (u.lane j).wdata = some x) :
    u.mem.listed (u.port.addr + j) = some x := by
  rcases runCommand_next h with rfl | ⟨i, -, he⟩
  · simp at hx
  · exact exec_listed_of_wdata he hx

/-- Whatever the draws, an interrupted command leaves each byte as it was or as the whole command would
have left it (R541). -/
theorem listed_tornLanes_of_runCommand {c : Command} {s u : State} (h : runCommand c s = .next u)
    (k a : Nat) :
    let torn := tornLanes k s.mem u.port.addr 0 u.port.lanes
    torn.listed a = s.mem.listed a ∨ torn.listed a = u.mem.listed a := by
  rcases listed_tornLanes u.port.lanes s.mem k u.port.addr 0 a with hold | ⟨hle, x, hx, hnew⟩
  · exact .inl hold
  · have hu : u.mem.listed (u.port.addr + (a - u.port.addr)) = some x :=
      runCommand_listed_of_wdata h hx
    rw [Nat.add_sub_cancel' hle] at hu
    exact .inr (hnew.trans hu.symm)

/-! ### The obligations about runs and resets -/

/-- Settles O36: the step takes the command off and the command port answers it. -/
theorem everyCommandIsAnswered : Obligations.EveryCommandIsAnswered := by
  intro s c rest hin hs
  obtain ⟨t, r, hstep, hrest, -, hr⟩ := step_command_answered hin hs
  exact ⟨t, r, hstep, hrest, hr⟩

/-- Settles O37, by induction on the commands: the first is answered, and the state it leaves has the
other commands before it and the buffer still exclusive. -/
theorem runsCannotHang : Obligations.RunsCannotHang := by
  intro cs
  induction cs with
  | nil => exact fun _ _ _ => rfl
  | cons c cs ih =>
    intro s hin hs
    obtain ⟨t, r, hstep, hrest, hexcl, hr⟩ := step_command_answered hin hs
    rw [List.length_cons, responsesOf_command cs.length hstep hin, List.length_append, hr,
      ih t hrest hexcl, Option.toList_some, List.length_singleton, Nat.add_comm]

/-- Settles O39: the step is `State.resetEngine`, and UNBOUND rejects every command that does not
construct. -/
theorem resetUnbindsTheEngine : Obligations.ResetUnbindsTheEngine := by
  intro s rest hin
  refine ⟨(s.withInputs rest).resetEngine, step_of_input hin, rfl, rfl, rfl, rfl, rfl, rfl, rfl, rfl,
    rfl, resetEngine_lane _, fun i hc => ?_⟩
  obtain ⟨u, hu, hr, hsame, -⟩ :=
    wrongModeIsIllegal i (s.withInputs rest).resetEngine ((accepted_unbound i.form).trans hc)
  exact ⟨u, hu, hr, hsame⟩

/-- Settles O40: with the buffer exclusive the step answers, in the reset state over the torn lanes of the
state that the command would have given. -/
theorem resetDuringACommand : Obligations.ResetDuringACommand := by
  intro s c rest hin hs
  rcases accept_answersOrShared (.resetDuring c) (s.withInputs rest) with ⟨t, ht⟩ | ⟨-, hshared⟩
  · obtain ⟨u, hu, rfl⟩ := abortCommand_next ht
    exact ⟨_, u, (step_of_input hin).trans ht, hu, rfl, rfl, rfl, rfl, rfl, rfl, rfl,
      listed_tornLanes_of_runCommand hu s.aborts⟩
  · exact absurd hshared (by simp [hs])

end Sys2Proof.Machine

namespace Sys2Proof

/-! ### The words of the spec's vectors -/

/-- A word of the default `AW` decodes to the command whose packing it is (R90). -/
theorem decodeTableWord_of_encodeWord {i : Instr} {w : Nat}
    (hi : i.wellFormed Config.default = true) (hw : encodeWord Config.default i = w) :
    decodeTableWord 139 w = some i := by
  obtain ⟨hdecode, hlt⟩ := packedWordRoundTrip Config.default i hi
  have hbits : encodeWord Config.default i < 2 ^ 139 := hlt
  rw [← hw, decodeTableWord, Nat.mod_eq_of_lt hbits, hdecode]

theorem decodeTableWord_of_reservedOp {nbits w : Nat}
    (h : ReservedOp (Command.ofWord Config.default (w % 2 ^ nbits)).op) :
    decodeTableWord nbits w = none := by
  rw [decodeTableWord, decode_of_reservedOp Config.default h]

/-- Settles O6: nine of the words are the packings of the commands printed beside them, and the tenth has
the reserved opcode `C6`. -/
theorem specWordsDecode : Obligations.SpecWordsDecode :=
  ⟨decodeTableWord_of_encodeWord (by decide) (by decide),
    decodeTableWord_of_encodeWord (by decide) (by decide),
    decodeTableWord_of_encodeWord (by decide) (by decide),
    decodeTableWord_of_encodeWord (by decide) (by decide),
    decodeTableWord_of_encodeWord (by decide) (by decide),
    decodeTableWord_of_encodeWord (by decide) (by decide),
    decodeTableWord_of_encodeWord (by decide) (by decide),
    decodeTableWord_of_encodeWord (by decide) (by decide),
    decodeTableWord_of_encodeWord (by decide) (by decide),
    decodeTableWord_of_reservedOp (.inl (by decide))⟩

end Sys2Proof
